-- ==== Sys2Proof/Word.lean ====
section
/-! DEFINITION. The word types of the SM83: the 8-bit data bus and registers, the 16-bit address bus and register pairs (00_scope.md R12). -/

namespace Sys2Proof

/-- A byte: a general register, a memory cell, one transfer of the data bus (R12). -/
abbrev Byte := BitVec 8

/-- An address, and the value of PC, SP or a register pair (R12). -/
abbrev Addr := BitVec 16

end Sys2Proof
end

