-- ==== Sys2Proof/Machine/Bits.lean ====
section
/-! DEFINITION. Bit fields, byte order and sign extension (00_scope.md R17, R18; 20_memory.md R51). -/

namespace Sys2Proof

/-- `{hi, lo}`: the 16-bit value with hi in bits 15:8 (R17). -/
def word (hi lo : Byte) : Addr := hi ++ lo

/-- Bits 7:0 of a 16-bit value. -/
def loByte (v : Addr) : Byte := v.extractLsb' 0 8

/-- Bits 15:8 of a 16-bit value. -/
def hiByte (v : Addr) : Byte := v.extractLsb' 8 8

/-- `sext_16(v)`: the two's-complement sign extension of a byte to 16 bits (R18). -/
def sext16 (v : Byte) : Addr := v.signExtend 16

/-- `v[i]`: bit i of a byte (R17). -/
def bit (v : Byte) (i : Nat) : Bool := v.getLsbD i

/-- A byte with bit i as given and every other bit 0. -/
def bitAt (i : Nat) (b : Bool) : Byte := if b then 1#8 <<< i else 0#8

/-- The two-bit field `v[i+1:i]` of a byte. -/
def field2 (v : Byte) (i : Nat) : BitVec 2 := v.extractLsb' i 2

/-- The three-bit field `v[2:0]` of a byte. -/
def field3 (v : Byte) : BitVec 3 := v.extractLsb' 0 3

/-- The four-bit field `v[3:0]` of a byte. -/
def field4 (v : Byte) : BitVec 4 := v.extractLsb' 0 4

/-- The four-bit field `v[7:4]` of a byte. -/
def highNibble (v : Byte) : BitVec 4 := v.extractLsb' 4 4

end Sys2Proof
end

