-- ==== Sys2Proof/Syntax.lean ====
section
/-! DEFINITION. The instructions: one constructor of `Instr` per row of spec/opcode_table.json (30_encoding.md R111, R112, R114),
the operand codes of R99 to R106, and the families of constructors that share a rule, as functions of their operand codes. -/

namespace Sys2Proof

/-- The register code r of R99 without code 6. -/
inductive Reg8 where
  | b
  | c
  | d
  | e
  | h
  | l
  | a
  deriving DecidableEq, Repr

/-- The 8-bit operand of R99: a register, or the byte at address HL (code 6). -/
inductive Operand8 where
  | reg (r : Reg8)
  | atHL
  deriving DecidableEq, Repr

/-- The pair code dd of R100. -/
inductive Pair where
  | bc
  | de
  | hl
  | sp
  deriving DecidableEq, Repr

/-- The pair code qq of R101. -/
inductive StackPair where
  | bc
  | de
  | hl
  | af
  deriving DecidableEq, Repr

/-- The condition code cc of R102. -/
inductive Cond where
  | nz
  | z
  | nc
  | c
  deriving DecidableEq, Repr

/-- The accumulator operation code of R103. -/
inductive AluOp where
  | add
  | adc
  | sub
  | sbc
  | and
  | xor
  | or
  | cp
  deriving DecidableEq, Repr

/-- The CB rotate and shift operation of R104. -/
inductive ShiftOp where
  | rlc
  | rrc
  | rl
  | rr
  | sla
  | sra
  | swap
  | srl
  deriving DecidableEq, Repr

/-- A three-bit index: the bit b of BIT, RES and SET (R105), and the field t / 8 of RST (R106). -/
inductive Index3 where
  | i0
  | i1
  | i2
  | i3
  | i4
  | i5
  | i6
  | i7
  deriving DecidableEq, Repr

/-- The 11 illegal base opcodes (R114). -/
inductive IllegalOp where
  | opD3
  | opDB
  | opDD
  | opE3
  | opE4
  | opEB
  | opEC
  | opED
  | opF4
  | opFC
  | opFD
  deriving DecidableEq, Repr

/-- The instructions: the rows of the opcode table that carry operand bytes, then the others, each in the table's order (base map
R111 with the illegal opcodes R114, then CB map R112; Lean's runtime wants the constructors with fields first). `n` is an
8-bit immediate or high-page offset (R107, R110), `nn` a 16-bit immediate or address (R108), `e` the displacement byte (R109). -/
inductive Instr where
  | ldBCImm16 (nn : Addr)
  | ldBImm (n : Byte)
  | ldAtImm16SP (nn : Addr)
  | ldCImm (n : Byte)
  | stop (n : Byte)
  | ldDEImm16 (nn : Addr)
  | ldDImm (n : Byte)
  | jrDisp (e : Byte)
  | ldEImm (n : Byte)
  | jrNZDisp (e : Byte)
  | ldHLImm16 (nn : Addr)
  | ldHImm (n : Byte)
  | jrZDisp (e : Byte)
  | ldLImm (n : Byte)
  | jrNCDisp (e : Byte)
  | ldSPImm16 (nn : Addr)
  | ldAtHLImm (n : Byte)
  | jrCDisp (e : Byte)
  | ldAImm (n : Byte)
  | jpNZImm16 (nn : Addr)
  | jpImm16 (nn : Addr)
  | callNZImm16 (nn : Addr)
  | addAImm (n : Byte)
  | jpZImm16 (nn : Addr)
  | callZImm16 (nn : Addr)
  | callImm16 (nn : Addr)
  | adcAImm (n : Byte)
  | jpNCImm16 (nn : Addr)
  | callNCImm16 (nn : Addr)
  | subImm (n : Byte)
  | jpCImm16 (nn : Addr)
  | callCImm16 (nn : Addr)
  | sbcAImm (n : Byte)
  | ldhAtImmA (n : Byte)
  | andImm (n : Byte)
  | addSPDisp (e : Byte)
  | ldAtImm16A (nn : Addr)
  | xorImm (n : Byte)
  | ldhAAtImm (n : Byte)
  | orImm (n : Byte)
  | ldHLSPDisp (e : Byte)
  | ldAAtImm16 (nn : Addr)
  | cpImm (n : Byte)
  | nop
  | ldAtBCA
  | incBC
  | incB
  | decB
  | rlca
  | addHLBC
  | ldAAtBC
  | decBC
  | incC
  | decC
  | rrca
  | ldAtDEA
  | incDE
  | incD
  | decD
  | rla
  | addHLDE
  | ldAAtDE
  | decDE
  | incE
  | decE
  | rra
  | ldAtHLIncA
  | incHL
  | incH
  | decH
  | daa
  | addHLHL
  | ldAAtHLInc
  | decHL
  | incL
  | decL
  | cpl
  | ldAtHLDecA
  | incSP
  | incAtHL
  | decAtHL
  | scf
  | addHLSP
  | ldAAtHLDec
  | decSP
  | incA
  | decA
  | ccf
  | ldBB
  | ldBC
  | ldBD
  | ldBE
  | ldBH
  | ldBL
  | ldBAtHL
  | ldBA
  | ldCB
  | ldCC
  | ldCD
  | ldCE
  | ldCH
  | ldCL
  | ldCAtHL
  | ldCA
  | ldDB
  | ldDC
  | ldDD
  | ldDE
  | ldDH
  | ldDL
  | ldDAtHL
  | ldDA
  | ldEB
  | ldEC
  | ldED
  | ldEE
  | ldEH
  | ldEL
  | ldEAtHL
  | ldEA
  | ldHB
  | ldHC
  | ldHD
  | ldHE
  | ldHH
  | ldHL
  | ldHAtHL
  | ldHA
  | ldLB
  | ldLC
  | ldLD
  | ldLE
  | ldLH
  | ldLL
  | ldLAtHL
  | ldLA
  | ldAtHLB
  | ldAtHLC
  | ldAtHLD
  | ldAtHLE
  | ldAtHLH
  | ldAtHLL
  | halt
  | ldAtHLA
  | ldAB
  | ldAC
  | ldAD
  | ldAE
  | ldAH
  | ldAL
  | ldAAtHL
  | ldAA
  | addAB
  | addAC
  | addAD
  | addAE
  | addAH
  | addAL
  | addAAtHL
  | addAA
  | adcAB
  | adcAC
  | adcAD
  | adcAE
  | adcAH
  | adcAL
  | adcAAtHL
  | adcAA
  | subB
  | subC
  | subD
  | subE
  | subH
  | subL
  | subAtHL
  | subA
  | sbcAB
  | sbcAC
  | sbcAD
  | sbcAE
  | sbcAH
  | sbcAL
  | sbcAAtHL
  | sbcAA
  | andB
  | andC
  | andD
  | andE
  | andH
  | andL
  | andAtHL
  | andA
  | xorB
  | xorC
  | xorD
  | xorE
  | xorH
  | xorL
  | xorAtHL
  | xorA
  | orB
  | orC
  | orD
  | orE
  | orH
  | orL
  | orAtHL
  | orA
  | cpB
  | cpC
  | cpD
  | cpE
  | cpH
  | cpL
  | cpAtHL
  | cpA
  | retNZ
  | popBC
  | pushBC
  | rst00
  | retZ
  | ret
  | rst08
  | retNC
  | popDE
  | illegalD3
  | pushDE
  | rst10
  | retC
  | reti
  | illegalDB
  | illegalDD
  | rst18
  | popHL
  | ldAtCA
  | illegalE3
  | illegalE4
  | pushHL
  | rst20
  | jpHL
  | illegalEB
  | illegalEC
  | illegalED
  | rst28
  | popAF
  | ldAAtC
  | di
  | illegalF4
  | pushAF
  | rst30
  | ldSPHL
  | ei
  | illegalFC
  | illegalFD
  | rst38
  | rlcB
  | rlcC
  | rlcD
  | rlcE
  | rlcH
  | rlcL
  | rlcAtHL
  | rlcA
  | rrcB
  | rrcC
  | rrcD
  | rrcE
  | rrcH
  | rrcL
  | rrcAtHL
  | rrcA
  | rlB
  | rlC
  | rlD
  | rlE
  | rlH
  | rlL
  | rlAtHL
  | rlA
  | rrB
  | rrC
  | rrD
  | rrE
  | rrH
  | rrL
  | rrAtHL
  | rrA
  | slaB
  | slaC
  | slaD
  | slaE
  | slaH
  | slaL
  | slaAtHL
  | slaA
  | sraB
  | sraC
  | sraD
  | sraE
  | sraH
  | sraL
  | sraAtHL
  | sraA
  | swapB
  | swapC
  | swapD
  | swapE
  | swapH
  | swapL
  | swapAtHL
  | swapA
  | srlB
  | srlC
  | srlD
  | srlE
  | srlH
  | srlL
  | srlAtHL
  | srlA
  | bit0B
  | bit0C
  | bit0D
  | bit0E
  | bit0H
  | bit0L
  | bit0AtHL
  | bit0A
  | bit1B
  | bit1C
  | bit1D
  | bit1E
  | bit1H
  | bit1L
  | bit1AtHL
  | bit1A
  | bit2B
  | bit2C
  | bit2D
  | bit2E
  | bit2H
  | bit2L
  | bit2AtHL
  | bit2A
  | bit3B
  | bit3C
  | bit3D
  | bit3E
  | bit3H
  | bit3L
  | bit3AtHL
  | bit3A
  | bit4B
  | bit4C
  | bit4D
  | bit4E
  | bit4H
  | bit4L
  | bit4AtHL
  | bit4A
  | bit5B
  | bit5C
  | bit5D
  | bit5E
  | bit5H
  | bit5L
  | bit5AtHL
  | bit5A
  | bit6B
  | bit6C
  | bit6D
  | bit6E
  | bit6H
  | bit6L
  | bit6AtHL
  | bit6A
  | bit7B
  | bit7C
  | bit7D
  | bit7E
  | bit7H
  | bit7L
  | bit7AtHL
  | bit7A
  | res0B
  | res0C
  | res0D
  | res0E
  | res0H
  | res0L
  | res0AtHL
  | res0A
  | res1B
  | res1C
  | res1D
  | res1E
  | res1H
  | res1L
  | res1AtHL
  | res1A
  | res2B
  | res2C
  | res2D
  | res2E
  | res2H
  | res2L
  | res2AtHL
  | res2A
  | res3B
  | res3C
  | res3D
  | res3E
  | res3H
  | res3L
  | res3AtHL
  | res3A
  | res4B
  | res4C
  | res4D
  | res4E
  | res4H
  | res4L
  | res4AtHL
  | res4A
  | res5B
  | res5C
  | res5D
  | res5E
  | res5H
  | res5L
  | res5AtHL
  | res5A
  | res6B
  | res6C
  | res6D
  | res6E
  | res6H
  | res6L
  | res6AtHL
  | res6A
  | res7B
  | res7C
  | res7D
  | res7E
  | res7H
  | res7L
  | res7AtHL
  | res7A
  | set0B
  | set0C
  | set0D
  | set0E
  | set0H
  | set0L
  | set0AtHL
  | set0A
  | set1B
  | set1C
  | set1D
  | set1E
  | set1H
  | set1L
  | set1AtHL
  | set1A
  | set2B
  | set2C
  | set2D
  | set2E
  | set2H
  | set2L
  | set2AtHL
  | set2A
  | set3B
  | set3C
  | set3D
  | set3E
  | set3H
  | set3L
  | set3AtHL
  | set3A
  | set4B
  | set4C
  | set4D
  | set4E
  | set4H
  | set4L
  | set4AtHL
  | set4A
  | set5B
  | set5C
  | set5D
  | set5E
  | set5H
  | set5L
  | set5AtHL
  | set5A
  | set6B
  | set6C
  | set6D
  | set6E
  | set6H
  | set6L
  | set6AtHL
  | set6A
  | set7B
  | set7C
  | set7D
  | set7E
  | set7H
  | set7L
  | set7AtHL
  | set7A
  deriving DecidableEq, Repr

/-- `LD r,r'` (R123). -/
def Instr.ldReg (dst src : Reg8) : Instr :=
  match dst, src with
  | .b, .b => .ldBB
  | .b, .c => .ldBC
  | .b, .d => .ldBD
  | .b, .e => .ldBE
  | .b, .h => .ldBH
  | .b, .l => .ldBL
  | .b, .a => .ldBA
  | .c, .b => .ldCB
  | .c, .c => .ldCC
  | .c, .d => .ldCD
  | .c, .e => .ldCE
  | .c, .h => .ldCH
  | .c, .l => .ldCL
  | .c, .a => .ldCA
  | .d, .b => .ldDB
  | .d, .c => .ldDC
  | .d, .d => .ldDD
  | .d, .e => .ldDE
  | .d, .h => .ldDH
  | .d, .l => .ldDL
  | .d, .a => .ldDA
  | .e, .b => .ldEB
  | .e, .c => .ldEC
  | .e, .d => .ldED
  | .e, .e => .ldEE
  | .e, .h => .ldEH
  | .e, .l => .ldEL
  | .e, .a => .ldEA
  | .h, .b => .ldHB
  | .h, .c => .ldHC
  | .h, .d => .ldHD
  | .h, .e => .ldHE
  | .h, .h => .ldHH
  | .h, .l => .ldHL
  | .h, .a => .ldHA
  | .l, .b => .ldLB
  | .l, .c => .ldLC
  | .l, .d => .ldLD
  | .l, .e => .ldLE
  | .l, .h => .ldLH
  | .l, .l => .ldLL
  | .l, .a => .ldLA
  | .a, .b => .ldAB
  | .a, .c => .ldAC
  | .a, .d => .ldAD
  | .a, .e => .ldAE
  | .a, .h => .ldAH
  | .a, .l => .ldAL
  | .a, .a => .ldAA

/-- `LD r,n` (R124). -/
def Instr.ldImm (dst : Reg8) (n : Byte) : Instr :=
  match dst with
  | .b => .ldBImm n
  | .c => .ldCImm n
  | .d => .ldDImm n
  | .e => .ldEImm n
  | .h => .ldHImm n
  | .l => .ldLImm n
  | .a => .ldAImm n

/-- `LD r,(HL)` (R125). -/
def Instr.ldFromHL (dst : Reg8) : Instr :=
  match dst with
  | .b => .ldBAtHL
  | .c => .ldCAtHL
  | .d => .ldDAtHL
  | .e => .ldEAtHL
  | .h => .ldHAtHL
  | .l => .ldLAtHL
  | .a => .ldAAtHL

/-- `LD (HL),r` (R126). -/
def Instr.ldToHL (r : Reg8) : Instr :=
  match r with
  | .b => .ldAtHLB
  | .c => .ldAtHLC
  | .d => .ldAtHLD
  | .e => .ldAtHLE
  | .h => .ldAtHLH
  | .l => .ldAtHLL
  | .a => .ldAtHLA

/-- `LD rr,nn` (R142). -/
def Instr.ldPair (p : Pair) (nn : Addr) : Instr :=
  match p with
  | .bc => .ldBCImm16 nn
  | .de => .ldDEImm16 nn
  | .hl => .ldHLImm16 nn
  | .sp => .ldSPImm16 nn

/-- `PUSH qq` (R145). -/
def Instr.push (q : StackPair) : Instr :=
  match q with
  | .bc => .pushBC
  | .de => .pushDE
  | .hl => .pushHL
  | .af => .pushAF

/-- `POP qq` (R146) and `POP AF` (R147). -/
def Instr.pop (q : StackPair) : Instr :=
  match q with
  | .bc => .popBC
  | .de => .popDE
  | .hl => .popHL
  | .af => .popAF

/-- The accumulator operations on a register or (HL) (R150, opcodes 0x80 to 0xBF). -/
def Instr.alu (op : AluOp) (v : Operand8) : Instr :=
  match op, v with
  | .add, .reg .b => .addAB
  | .add, .reg .c => .addAC
  | .add, .reg .d => .addAD
  | .add, .reg .e => .addAE
  | .add, .reg .h => .addAH
  | .add, .reg .l => .addAL
  | .add, .atHL => .addAAtHL
  | .add, .reg .a => .addAA
  | .adc, .reg .b => .adcAB
  | .adc, .reg .c => .adcAC
  | .adc, .reg .d => .adcAD
  | .adc, .reg .e => .adcAE
  | .adc, .reg .h => .adcAH
  | .adc, .reg .l => .adcAL
  | .adc, .atHL => .adcAAtHL
  | .adc, .reg .a => .adcAA
  | .sub, .reg .b => .subB
  | .sub, .reg .c => .subC
  | .sub, .reg .d => .subD
  | .sub, .reg .e => .subE
  | .sub, .reg .h => .subH
  | .sub, .reg .l => .subL
  | .sub, .atHL => .subAtHL
  | .sub, .reg .a => .subA
  | .sbc, .reg .b => .sbcAB
  | .sbc, .reg .c => .sbcAC
  | .sbc, .reg .d => .sbcAD
  | .sbc, .reg .e => .sbcAE
  | .sbc, .reg .h => .sbcAH
  | .sbc, .reg .l => .sbcAL
  | .sbc, .atHL => .sbcAAtHL
  | .sbc, .reg .a => .sbcAA
  | .and, .reg .b => .andB
  | .and, .reg .c => .andC
  | .and, .reg .d => .andD
  | .and, .reg .e => .andE
  | .and, .reg .h => .andH
  | .and, .reg .l => .andL
  | .and, .atHL => .andAtHL
  | .and, .reg .a => .andA
  | .xor, .reg .b => .xorB
  | .xor, .reg .c => .xorC
  | .xor, .reg .d => .xorD
  | .xor, .reg .e => .xorE
  | .xor, .reg .h => .xorH
  | .xor, .reg .l => .xorL
  | .xor, .atHL => .xorAtHL
  | .xor, .reg .a => .xorA
  | .or, .reg .b => .orB
  | .or, .reg .c => .orC
  | .or, .reg .d => .orD
  | .or, .reg .e => .orE
  | .or, .reg .h => .orH
  | .or, .reg .l => .orL
  | .or, .atHL => .orAtHL
  | .or, .reg .a => .orA
  | .cp, .reg .b => .cpB
  | .cp, .reg .c => .cpC
  | .cp, .reg .d => .cpD
  | .cp, .reg .e => .cpE
  | .cp, .reg .h => .cpH
  | .cp, .reg .l => .cpL
  | .cp, .atHL => .cpAtHL
  | .cp, .reg .a => .cpA

/-- The accumulator operations on an immediate (R150). -/
def Instr.aluImm (op : AluOp) (n : Byte) : Instr :=
  match op with
  | .add => .addAImm n
  | .adc => .adcAImm n
  | .sub => .subImm n
  | .sbc => .sbcAImm n
  | .and => .andImm n
  | .xor => .xorImm n
  | .or => .orImm n
  | .cp => .cpImm n

/-- `INC r` and `INC (HL)` (R159). -/
def Instr.inc (v : Operand8) : Instr :=
  match v with
  | .reg .b => .incB
  | .reg .c => .incC
  | .reg .d => .incD
  | .reg .e => .incE
  | .reg .h => .incH
  | .reg .l => .incL
  | .atHL => .incAtHL
  | .reg .a => .incA

/-- `DEC r` and `DEC (HL)` (R160). -/
def Instr.dec (v : Operand8) : Instr :=
  match v with
  | .reg .b => .decB
  | .reg .c => .decC
  | .reg .d => .decD
  | .reg .e => .decE
  | .reg .h => .decH
  | .reg .l => .decL
  | .atHL => .decAtHL
  | .reg .a => .decA

/-- `ADD HL,rr` (R165). -/
def Instr.addHL (p : Pair) : Instr :=
  match p with
  | .bc => .addHLBC
  | .de => .addHLDE
  | .hl => .addHLHL
  | .sp => .addHLSP

/-- `INC rr` (R166). -/
def Instr.incPair (p : Pair) : Instr :=
  match p with
  | .bc => .incBC
  | .de => .incDE
  | .hl => .incHL
  | .sp => .incSP

/-- `DEC rr` (R167). -/
def Instr.decPair (p : Pair) : Instr :=
  match p with
  | .bc => .decBC
  | .de => .decDE
  | .hl => .decHL
  | .sp => .decSP

/-- The CB rotates and shifts (R174 to R181). -/
def Instr.shift (op : ShiftOp) (v : Operand8) : Instr :=
  match op, v with
  | .rlc, .reg .b => .rlcB
  | .rlc, .reg .c => .rlcC
  | .rlc, .reg .d => .rlcD
  | .rlc, .reg .e => .rlcE
  | .rlc, .reg .h => .rlcH
  | .rlc, .reg .l => .rlcL
  | .rlc, .atHL => .rlcAtHL
  | .rlc, .reg .a => .rlcA
  | .rrc, .reg .b => .rrcB
  | .rrc, .reg .c => .rrcC
  | .rrc, .reg .d => .rrcD
  | .rrc, .reg .e => .rrcE
  | .rrc, .reg .h => .rrcH
  | .rrc, .reg .l => .rrcL
  | .rrc, .atHL => .rrcAtHL
  | .rrc, .reg .a => .rrcA
  | .rl, .reg .b => .rlB
  | .rl, .reg .c => .rlC
  | .rl, .reg .d => .rlD
  | .rl, .reg .e => .rlE
  | .rl, .reg .h => .rlH
  | .rl, .reg .l => .rlL
  | .rl, .atHL => .rlAtHL
  | .rl, .reg .a => .rlA
  | .rr, .reg .b => .rrB
  | .rr, .reg .c => .rrC
  | .rr, .reg .d => .rrD
  | .rr, .reg .e => .rrE
  | .rr, .reg .h => .rrH
  | .rr, .reg .l => .rrL
  | .rr, .atHL => .rrAtHL
  | .rr, .reg .a => .rrA
  | .sla, .reg .b => .slaB
  | .sla, .reg .c => .slaC
  | .sla, .reg .d => .slaD
  | .sla, .reg .e => .slaE
  | .sla, .reg .h => .slaH
  | .sla, .reg .l => .slaL
  | .sla, .atHL => .slaAtHL
  | .sla, .reg .a => .slaA
  | .sra, .reg .b => .sraB
  | .sra, .reg .c => .sraC
  | .sra, .reg .d => .sraD
  | .sra, .reg .e => .sraE
  | .sra, .reg .h => .sraH
  | .sra, .reg .l => .sraL
  | .sra, .atHL => .sraAtHL
  | .sra, .reg .a => .sraA
  | .swap, .reg .b => .swapB
  | .swap, .reg .c => .swapC
  | .swap, .reg .d => .swapD
  | .swap, .reg .e => .swapE
  | .swap, .reg .h => .swapH
  | .swap, .reg .l => .swapL
  | .swap, .atHL => .swapAtHL
  | .swap, .reg .a => .swapA
  | .srl, .reg .b => .srlB
  | .srl, .reg .c => .srlC
  | .srl, .reg .d => .srlD
  | .srl, .reg .e => .srlE
  | .srl, .reg .h => .srlH
  | .srl, .reg .l => .srlL
  | .srl, .atHL => .srlAtHL
  | .srl, .reg .a => .srlA

/-- `BIT b,r` (R182). -/
def Instr.bit (b : Index3) (v : Operand8) : Instr :=
  match b, v with
  | .i0, .reg .b => .bit0B
  | .i0, .reg .c => .bit0C
  | .i0, .reg .d => .bit0D
  | .i0, .reg .e => .bit0E
  | .i0, .reg .h => .bit0H
  | .i0, .reg .l => .bit0L
  | .i0, .atHL => .bit0AtHL
  | .i0, .reg .a => .bit0A
  | .i1, .reg .b => .bit1B
  | .i1, .reg .c => .bit1C
  | .i1, .reg .d => .bit1D
  | .i1, .reg .e => .bit1E
  | .i1, .reg .h => .bit1H
  | .i1, .reg .l => .bit1L
  | .i1, .atHL => .bit1AtHL
  | .i1, .reg .a => .bit1A
  | .i2, .reg .b => .bit2B
  | .i2, .reg .c => .bit2C
  | .i2, .reg .d => .bit2D
  | .i2, .reg .e => .bit2E
  | .i2, .reg .h => .bit2H
  | .i2, .reg .l => .bit2L
  | .i2, .atHL => .bit2AtHL
  | .i2, .reg .a => .bit2A
  | .i3, .reg .b => .bit3B
  | .i3, .reg .c => .bit3C
  | .i3, .reg .d => .bit3D
  | .i3, .reg .e => .bit3E
  | .i3, .reg .h => .bit3H
  | .i3, .reg .l => .bit3L
  | .i3, .atHL => .bit3AtHL
  | .i3, .reg .a => .bit3A
  | .i4, .reg .b => .bit4B
  | .i4, .reg .c => .bit4C
  | .i4, .reg .d => .bit4D
  | .i4, .reg .e => .bit4E
  | .i4, .reg .h => .bit4H
  | .i4, .reg .l => .bit4L
  | .i4, .atHL => .bit4AtHL
  | .i4, .reg .a => .bit4A
  | .i5, .reg .b => .bit5B
  | .i5, .reg .c => .bit5C
  | .i5, .reg .d => .bit5D
  | .i5, .reg .e => .bit5E
  | .i5, .reg .h => .bit5H
  | .i5, .reg .l => .bit5L
  | .i5, .atHL => .bit5AtHL
  | .i5, .reg .a => .bit5A
  | .i6, .reg .b => .bit6B
  | .i6, .reg .c => .bit6C
  | .i6, .reg .d => .bit6D
  | .i6, .reg .e => .bit6E
  | .i6, .reg .h => .bit6H
  | .i6, .reg .l => .bit6L
  | .i6, .atHL => .bit6AtHL
  | .i6, .reg .a => .bit6A
  | .i7, .reg .b => .bit7B
  | .i7, .reg .c => .bit7C
  | .i7, .reg .d => .bit7D
  | .i7, .reg .e => .bit7E
  | .i7, .reg .h => .bit7H
  | .i7, .reg .l => .bit7L
  | .i7, .atHL => .bit7AtHL
  | .i7, .reg .a => .bit7A

/-- `RES b,r` (R183). -/
def Instr.res (b : Index3) (v : Operand8) : Instr :=
  match b, v with
  | .i0, .reg .b => .res0B
  | .i0, .reg .c => .res0C
  | .i0, .reg .d => .res0D
  | .i0, .reg .e => .res0E
  | .i0, .reg .h => .res0H
  | .i0, .reg .l => .res0L
  | .i0, .atHL => .res0AtHL
  | .i0, .reg .a => .res0A
  | .i1, .reg .b => .res1B
  | .i1, .reg .c => .res1C
  | .i1, .reg .d => .res1D
  | .i1, .reg .e => .res1E
  | .i1, .reg .h => .res1H
  | .i1, .reg .l => .res1L
  | .i1, .atHL => .res1AtHL
  | .i1, .reg .a => .res1A
  | .i2, .reg .b => .res2B
  | .i2, .reg .c => .res2C
  | .i2, .reg .d => .res2D
  | .i2, .reg .e => .res2E
  | .i2, .reg .h => .res2H
  | .i2, .reg .l => .res2L
  | .i2, .atHL => .res2AtHL
  | .i2, .reg .a => .res2A
  | .i3, .reg .b => .res3B
  | .i3, .reg .c => .res3C
  | .i3, .reg .d => .res3D
  | .i3, .reg .e => .res3E
  | .i3, .reg .h => .res3H
  | .i3, .reg .l => .res3L
  | .i3, .atHL => .res3AtHL
  | .i3, .reg .a => .res3A
  | .i4, .reg .b => .res4B
  | .i4, .reg .c => .res4C
  | .i4, .reg .d => .res4D
  | .i4, .reg .e => .res4E
  | .i4, .reg .h => .res4H
  | .i4, .reg .l => .res4L
  | .i4, .atHL => .res4AtHL
  | .i4, .reg .a => .res4A
  | .i5, .reg .b => .res5B
  | .i5, .reg .c => .res5C
  | .i5, .reg .d => .res5D
  | .i5, .reg .e => .res5E
  | .i5, .reg .h => .res5H
  | .i5, .reg .l => .res5L
  | .i5, .atHL => .res5AtHL
  | .i5, .reg .a => .res5A
  | .i6, .reg .b => .res6B
  | .i6, .reg .c => .res6C
  | .i6, .reg .d => .res6D
  | .i6, .reg .e => .res6E
  | .i6, .reg .h => .res6H
  | .i6, .reg .l => .res6L
  | .i6, .atHL => .res6AtHL
  | .i6, .reg .a => .res6A
  | .i7, .reg .b => .res7B
  | .i7, .reg .c => .res7C
  | .i7, .reg .d => .res7D
  | .i7, .reg .e => .res7E
  | .i7, .reg .h => .res7H
  | .i7, .reg .l => .res7L
  | .i7, .atHL => .res7AtHL
  | .i7, .reg .a => .res7A

/-- `SET b,r` (R184). -/
def Instr.set (b : Index3) (v : Operand8) : Instr :=
  match b, v with
  | .i0, .reg .b => .set0B
  | .i0, .reg .c => .set0C
  | .i0, .reg .d => .set0D
  | .i0, .reg .e => .set0E
  | .i0, .reg .h => .set0H
  | .i0, .reg .l => .set0L
  | .i0, .atHL => .set0AtHL
  | .i0, .reg .a => .set0A
  | .i1, .reg .b => .set1B
  | .i1, .reg .c => .set1C
  | .i1, .reg .d => .set1D
  | .i1, .reg .e => .set1E
  | .i1, .reg .h => .set1H
  | .i1, .reg .l => .set1L
  | .i1, .atHL => .set1AtHL
  | .i1, .reg .a => .set1A
  | .i2, .reg .b => .set2B
  | .i2, .reg .c => .set2C
  | .i2, .reg .d => .set2D
  | .i2, .reg .e => .set2E
  | .i2, .reg .h => .set2H
  | .i2, .reg .l => .set2L
  | .i2, .atHL => .set2AtHL
  | .i2, .reg .a => .set2A
  | .i3, .reg .b => .set3B
  | .i3, .reg .c => .set3C
  | .i3, .reg .d => .set3D
  | .i3, .reg .e => .set3E
  | .i3, .reg .h => .set3H
  | .i3, .reg .l => .set3L
  | .i3, .atHL => .set3AtHL
  | .i3, .reg .a => .set3A
  | .i4, .reg .b => .set4B
  | .i4, .reg .c => .set4C
  | .i4, .reg .d => .set4D
  | .i4, .reg .e => .set4E
  | .i4, .reg .h => .set4H
  | .i4, .reg .l => .set4L
  | .i4, .atHL => .set4AtHL
  | .i4, .reg .a => .set4A
  | .i5, .reg .b => .set5B
  | .i5, .reg .c => .set5C
  | .i5, .reg .d => .set5D
  | .i5, .reg .e => .set5E
  | .i5, .reg .h => .set5H
  | .i5, .reg .l => .set5L
  | .i5, .atHL => .set5AtHL
  | .i5, .reg .a => .set5A
  | .i6, .reg .b => .set6B
  | .i6, .reg .c => .set6C
  | .i6, .reg .d => .set6D
  | .i6, .reg .e => .set6E
  | .i6, .reg .h => .set6H
  | .i6, .reg .l => .set6L
  | .i6, .atHL => .set6AtHL
  | .i6, .reg .a => .set6A
  | .i7, .reg .b => .set7B
  | .i7, .reg .c => .set7C
  | .i7, .reg .d => .set7D
  | .i7, .reg .e => .set7E
  | .i7, .reg .h => .set7H
  | .i7, .reg .l => .set7L
  | .i7, .atHL => .set7AtHL
  | .i7, .reg .a => .set7A

/-- `JP cc,nn` (R187). -/
def Instr.jpCond (cc : Cond) (nn : Addr) : Instr :=
  match cc with
  | .nz => .jpNZImm16 nn
  | .z => .jpZImm16 nn
  | .nc => .jpNCImm16 nn
  | .c => .jpCImm16 nn

/-- `JR cc,e` (R190). -/
def Instr.jrCond (cc : Cond) (e : Byte) : Instr :=
  match cc with
  | .nz => .jrNZDisp e
  | .z => .jrZDisp e
  | .nc => .jrNCDisp e
  | .c => .jrCDisp e

/-- `CALL cc,nn` (R192). -/
def Instr.callCond (cc : Cond) (nn : Addr) : Instr :=
  match cc with
  | .nz => .callNZImm16 nn
  | .z => .callZImm16 nn
  | .nc => .callNCImm16 nn
  | .c => .callCImm16 nn

/-- `RET cc` (R194). -/
def Instr.retCond (cc : Cond) : Instr :=
  match cc with
  | .nz => .retNZ
  | .z => .retZ
  | .nc => .retNC
  | .c => .retC

/-- `RST t` with t = 8 times the index (R196). -/
def Instr.rst (t : Index3) : Instr :=
  match t with
  | .i0 => .rst00
  | .i1 => .rst08
  | .i2 => .rst10
  | .i3 => .rst18
  | .i4 => .rst20
  | .i5 => .rst28
  | .i6 => .rst30
  | .i7 => .rst38

/-- The illegal opcodes (R208). -/
def Instr.illegal (k : IllegalOp) : Instr :=
  match k with
  | .opD3 => .illegalD3
  | .opDB => .illegalDB
  | .opDD => .illegalDD
  | .opE3 => .illegalE3
  | .opE4 => .illegalE4
  | .opEB => .illegalEB
  | .opEC => .illegalEC
  | .opED => .illegalED
  | .opF4 => .illegalF4
  | .opFC => .illegalFC
  | .opFD => .illegalFD

end Sys2Proof
end

