-- ==== Sys2Proof/Config.lean ====
section
/-! DEFINITION. What a machine fixes: the machine models, the memory stores, the cartridge metadata, the parameters the spec decides
(00_scope.md R16) and, as opaque constants with no body, the parameters it leaves OPEN (R24: a model that does not know a
parameter treats each use of it as a draw). A draw takes the state's counter `draws` as its first argument (notes/assumptions/29.md). -/

namespace Sys2Proof

/-- P_MODEL (R3, R14): the monochrome console, the colour console, and the colour console in monochrome compatibility. -/
inductive Model where
  | dmg
  | cgb
  | cgbDmg
  deriving DecidableEq, Repr, Inhabited

/-- The three layers a frame is composed of (R230, R233). -/
inductive Layer where
  | background
  | obj
  | window
  deriving DecidableEq, Repr

/-- The stores behind the address space whose contents reset and load leave at P_POWERON_RAM (R50, R255). -/
inductive Store where
  | vram
  | wram
  | oam
  | hram
  | cartRam
  deriving DecidableEq, Repr

/-- P_MAPPER (R75). MBC1M is `mbc1` with the multicart flag (R79). -/
inductive MapperKind where
  | noMbc
  | mbc1
  | mbc2
  | mbc3
  | mbc5
  deriving DecidableEq, Repr, Inhabited

/-- The derived metadata of a cartridge image (R13): controller, bank counts, RTC, battery, and the RAM size in bytes of R59. -/
structure CartMeta where
  kind : MapperKind
  multicart : Bool
  hasRtc : Bool
  battery : Bool
  romBanks : Nat
  ramBanks : Nat
  ramBytes : Nat
  deriving DecidableEq, Repr, Inhabited

/-- What P_CART_META makes of an image (R247): metadata, or one of the two rejections. -/
inductive CartMetaResult where
  | cart (m : CartMeta)
  | invalidImage
  | unsupportedMapper
  deriving DecidableEq, Repr, Inhabited

namespace Config

/-! Parameters the spec decides (R16). -/

/-- P_HALT_WAKE_MCYCLES (46_system.md R203, D8). -/
def haltWakeMCycles : Nat := 1

/-- P_SPEED_SWITCH_MCYCLES (R205, D7). -/
def speedSwitchMCycles : Nat := 2050

/-- P_SERIAL_BIT_TICKS (60_exceptions.md R226, D35): CPU ticks per bit, normal and fast (CGB). -/
def serialBitTicks (fast : Bool) : Nat := if fast then 16 else 512

/-- P_SERIAL_IN with no peer (R227, D35): every incoming bit is 1. -/
def serialIn : Bool := true

/-- P_EXTERNAL_HOOKS (20_memory.md R71, D16), read by `State.externalRead` and `State.externalWrite`. -/
def externalHooks : Bool := false

/-- The frame length, and P_LCD_OFF_FRAME_PERIOD (R231, R261): base ticks. -/
def frameTicks : Nat := 70224

/-- Base ticks of one line (R231). -/
def lineTicks : Nat := 456

/-- The frame position of the frame event, the start of line 144 (R231). -/
def vblankTick : Nat := 65664

/-- Base ticks of one second of the 4,194,304 Hz system clock (R23, R89). -/
def secondTicks : Int := 4194304

/-! Parameters the spec leaves OPEN, fixed for a machine. -/

/-- P_POWERON_RAM(store, model) at a byte offset (R255). -/
opaque powerOnRam : Store → Model → Nat → Byte

/-- P_POSTBOOT_IO(model): an I/O register of P_PLATFORM after a reset without BIOS (R252). -/
opaque postBootIo : Model → Addr → Byte

/-- P_POWERON_IO(model): an I/O register of P_PLATFORM after a reset with BIOS (R254). -/
opaque powerOnIo : Model → Addr → Byte

/-- P_POSTBOOT_SYSCOUNTER of the CGB and CGB-DMG models (R253). -/
opaque postBootSysCounter : Model → BitVec 16

/-- P_CART_META(bytes, multicart-heuristics flag) (R247), read by `State.load` within the bounds of R13 (`CartMetaResult.legal`). -/
opaque cartMeta : List Byte → Bool → CartMetaResult

/-- P_DEFAULT_DMG_PALETTE: palette, shade (R234). -/
opaque defaultDmgPalette : Nat → Nat → BitVec 32

/-- P_DEFAULT_CGB_LUT at a colour word (R234). -/
opaque defaultCgbLut : Nat → BitVec 32

/-- P_INITIAL_FRAME at pixel (x, y) (R235). -/
opaque initialFrame : Nat → Nat → BitVec 32

/-- P_LCD_OFF_FRAME(model) at pixel (x, y) (R261). -/
opaque lcdOffFrame : Model → Nat → Nat → BitVec 32

/-- P_RTC_SAVE_LEN (R269). -/
opaque rtcSaveLen : Nat

/-- P_RTC_SAVE_LAYOUT, writing: the 11 RTC slots of R91, a wall-clock stamp, the index of the byte (R269). -/
opaque rtcSaveByte : List Nat → Nat → Nat → Byte

/-- P_RTC_SAVE_LAYOUT, reading: the 11 RTC slots held in the RTC part (R269). -/
opaque rtcLoadSlots : List Byte → List Nat

/-! Draws: the first argument is the state's draw counter. -/

/-- P_OPEN_BUS(a, lastCartValue, ticksSinceLastCartAccess, P_CART_PULLUP_TIME) (R70). -/
opaque openBus : Nat → Addr → Byte → Nat → Int → Byte

/-- A read of the mapped boot ROM where no image in force has a byte (R4, R65; notes/assumptions/43.md). -/
opaque absentBootByte : Nat → Addr → Byte

/-- A cartridge header byte, at an offset that the image does not have (R4, R248, R268; notes/assumptions/57.md). -/
opaque absentHeaderByte : Nat → Nat → Byte

/-- The cartridge RAM bank where no rule gives one (R4, R74, R80, R81; notes/assumptions/27.md). -/
opaque openRamBank : Nat → Nat

/-- P_DMA_CONFLICT_READ(a) outside OAM (R69), where no rule gives it; in OAM it is the 0xFF of R228. -/
opaque dmaConflict : Nat → Addr → Byte

/-- P_UNUSABLE_READ of the CGB models (R63). -/
opaque unusableRead : Nat → Addr → Byte

/-- P_VRAM_ACCESSIBLE with the display enabled (R68). -/
opaque vramAccessible : Nat → Bool

/-- P_OAM_ACCESSIBLE with the display enabled (R68). -/
opaque oamAccessible : Nat → Bool

/-- The value a register of P_PLATFORM reads as: address, the byte last written (R230). -/
opaque platformRead : Nat → Addr → Byte → Byte

/-- A STAT interrupt request of P_PLATFORM at a base tick (R230, R231). -/
opaque statRequest : Nat → Bool

/-- A start of PPU mode 0 at a base tick (R230, R229). -/
opaque hblankStart : Nat → Bool

/-- An audio sample of P_PLATFORM: left in bits 15:0, right in bits 31:16 (R232). -/
opaque apuSample : Nat → BitVec 32

/-- Whether P_PLATFORM's pixel of a layer is opaque: the draw that names the frame, x, y (R230, R233). -/
opaque drawnOpaque : Nat → Nat → Nat → Layer → Bool

/-- Which of the layers visible at a pixel of a frame P_PLATFORM puts on top: its place in the list of them (R230). -/
opaque drawnTop : Nat → Nat → Nat → List Layer → Nat

/-- Whether P_PLATFORM's pixel of the sprite layer goes through SP2 and not SP1 (R230, R234). -/
opaque drawnSp2 : Nat → Nat → Nat → Bool

/-- The shade of P_PLATFORM's pixel of a layer, or of none, in the DMG model (R230, R234). -/
opaque drawnShade : Nat → Nat → Nat → Option Layer → Fin 4

/-- The 15-bit colour word of P_PLATFORM's pixel of a layer, or of none, in the CGB and CGB-DMG models (R230, R234). -/
opaque drawnColour : Nat → Nat → Nat → Option Layer → BitVec 15

/-- Which of the palettes and layer masks in force in a pixel's line it was drawn with, counted back from the last
(notes/assumptions/51.md). -/
opaque drawnLook : Nat → Nat → Nat → Nat

/-- P_INPUT: a mask the input-poll hook returns (R225). -/
opaque inputMask : Nat → Byte

/-- P_WALLCLOCK: the RTC seconds that elapse at a base tick in wall-clock mode (R90). -/
opaque wallSeconds : Nat → Nat

/-- The wall-clock time stamp of a save (R269). -/
opaque wallStamp : Nat → Nat

/-- P_LINK_STATUS(which) (R227). -/
opaque linkStatus : Nat → Int → Int

end Config

/-- Metadata within what R13 says of it: at least 2 ROM banks, and a multicart only where the heuristic was enabled at load
(notes/assumptions/52.md). -/
def CartMeta.legal (m : CartMeta) (multicart : Bool) : CartMeta :=
  { m with romBanks := max 2 m.romBanks, multicart := multicart && m.multicart }

/-- A result of P_CART_META within what R13 says of it. -/
def CartMetaResult.legal (multicart : Bool) : CartMetaResult → CartMetaResult
  | .cart m => .cart (m.legal multicart)
  | .invalidImage => .invalidImage
  | .unsupportedMapper => .unsupportedMapper

end Sys2Proof
end

