-- ==== Sys2Proof/Machine/State.lean ====
section
/-! DEFINITION. The machine state: everything the spec gives the machine (10_state.md and the device rules it names), as plain data, and
the state right after reset. -/

namespace Sys2Proof.Machine

/-- The CPU: registers (R30, R32, R33), the flag byte F (R34), and the latches of R36, R37 and R40. -/
structure Cpu where
  a : Byte
  f : Byte
  b : Byte
  c : Byte
  d : Byte
  e : Byte
  h : Byte
  l : Byte
  sp : Addr
  pc : Addr
  /-- Interrupt master enable (R36). -/
  ime : Bool
  /-- The EI delay (R37). -/
  imePending : Bool
  /-- IME as it stood at the start of the current instruction step (`imeBefore` of R119, read by HALT). -/
  imeBefore : Bool
  halted : Bool
  haltBug : Bool
  stopped : Bool
  lockedUp : Bool
  /-- M-cycles of a speed-switch or VRAM-DMA stall still to run (R40, R207). -/
  stallCount : BitVec 16
  deriving DecidableEq, Repr

/-- The five interrupt requests, bits 0 to 4 of IF (R39, R210). -/
structure Requests where
  vblank : Bool
  stat : Bool
  timer : Bool
  serial : Bool
  joypad : Bool
  deriving DecidableEq, Repr

/-- The timer unit (60_exceptions.md R217 to R223). -/
structure Timer where
  sysCounter : BitVec 16
  tima : Byte
  tma : Byte
  tac : BitVec 3
  /-- TIMA went past 0xFF in the current M-cycle: this is the M-cycle k of R223. -/
  overflow : Bool
  reloadPending : Bool
  reloadedNow : Bool
  deriving DecidableEq, Repr

/-- The serial unit (R226): SB, the stored bits of SC, and the progress of a transfer. -/
structure Serial where
  sb : Byte
  /-- SC[7]: transfer start / busy. -/
  busy : Bool
  /-- SC[1]: fast clock (CGB model). -/
  fast : Bool
  /-- SC[0]: internal clock. -/
  internal : Bool
  /-- CPU ticks run of the current bit. -/
  ticks : Nat
  /-- Bits shifted so far. -/
  bits : Nat
  deriving DecidableEq, Repr

/-- The joypad: P1[5:4] and the last computed input lines (R224, R225). -/
structure Joypad where
  select : BitVec 2
  lastLines : BitVec 4
  deriving DecidableEq, Repr

/-- OAM DMA (R228): the DMA register, whose value is also the source page; `starting` in the M-cycle of the write, `active` from the
next one; the next byte to move. -/
structure OamDma where
  reg : Byte
  starting : Bool
  active : Bool
  index : Nat
  deriving DecidableEq, Repr

/-- VRAM DMA (R229): source and destination, an HBlank transfer and its remaining blocks, and the blocks of a general-purpose
transfer to move at the end of the current M-cycle. -/
structure Hdma where
  src : Addr
  dst : Addr
  active : Bool
  blocks : Nat
  pending : Nat
  deriving DecidableEq, Repr

/-- The PPU's frame position and LCDC, the only PPU state the spec fixes (R231). -/
structure Ppu where
  lcdc : Byte
  lineTick : Nat
  deriving DecidableEq, Repr

/-- The cartridge: its metadata (R13), its bank-controller registers (R76 to R82), and the last value on its bus (R70). -/
structure Cart where
  info : CartMeta
  ramEnabled : Bool
  bank1 : BitVec 5
  bank2 : BitVec 2
  mode : Bool
  /-- ROMB: MBC2 uses 4 bits, MBC3 7, MBC5 9. -/
  romb : BitVec 9
  sel : BitVec 4
  ramb : BitVec 4
  lastValue : Byte
  lastTick : Nat
  deriving DecidableEq, Repr

/-- The real-time clock (R83): live counters, sub-second counter, latched snapshot, latch-armed flag. -/
structure Rtc where
  s : BitVec 6
  m : BitVec 6
  h : BitVec 5
  d : BitVec 9
  halt : Bool
  carry : Bool
  sub : Nat
  latchedS : BitVec 6
  latchedM : BitVec 6
  latchedH : BitVec 5
  latchedDL : Byte
  latchedDH : Byte
  latchArmed : Bool
  deriving DecidableEq, Repr

/-- The code/data log's address kinds (R238). -/
inductive CdlKind where
  | rom
  | hram
  | wram
  | cartRam
  | none
  deriving DecidableEq, Repr

/-- The code/data log's flags (R238). -/
inductive CdlFlag where
  | execOpcode
  | execOperand
  | data
  deriving DecidableEq, Repr

/-- A hook call with its arguments (R237); `off` is the hook's cycle offset, `flag` the code/data log's flag bits. -/
inductive HookCall where
  | trace
  | exec (pc : Addr) (off : Nat)
  | read (addr : Addr) (off : Nat)
  | write (addr : Addr) (off : Nat)
  | codeData (address : Nat) (kind : CdlKind) (flag : Byte)
  | inputPoll
  | scanline
  | linkByte
  deriving DecidableEq, Repr

/-- What the host does from inside a hook: the calls R236 allows, a write through a pointer `getMemoryArea` gave (R72), or any other
call, which the model refuses. -/
inductive HookAction where
  | externalRead (addr : Addr)
  | externalWrite (addr : Addr) (v : Byte)
  | getRegs
  | getMemoryArea (i : Nat)
  | pokeArea (i off : Nat) (v : Byte)
  | setLayers (mask : Nat)
  | setDmgPaletteColor (p i : Nat) (rgb : BitVec 32)
  | setCgbPalette (lut : List (BitVec 32))
  | linkStatus (which : Int)
  | otherCall
  deriving DecidableEq, Repr

/-- The host's answer to one hook call: the mask an input poll returns (R225), and the calls it makes. -/
structure HookReply where
  mask : Byte
  actions : List HookAction
  deriving DecidableEq, Repr

/-- What the host sees during a call: hook calls, and the results of the calls it makes from hooks. -/
inductive HostEvent where
  | call (c : HookCall)
  | byte (v : Byte)
  | regs (slots : List Nat)
  | area (length : Option Nat)
  | status (v : Int)
  deriving DecidableEq, Repr

/-- The hook slots (R236): whether a callback is registered, and the line of the scanline hook. -/
structure Hooks where
  read : Bool
  write : Bool
  exec : Bool
  trace : Bool
  linkByte : Bool
  inputPoll : Bool
  codeData : Bool
  scanline : Option Nat
  deriving DecidableEq, Repr

/-- An entry of the breakpoint set (R239, R240): bank `none` is bank-independent. -/
structure Breakpoint where
  bank : Option Nat
  addr : Addr
  deriving DecidableEq, Repr

/-- The output palettes (R234): what setters have stored. What no setter has stored is P_DEFAULT_DMG_PALETTE or P_DEFAULT_CGB_LUT
(`Palettes.dmgColour`, `Palettes.cgbColour`). -/
structure Palettes where
  /-- Entries set by `setDmgPaletteColor`: (palette times 4 plus shade, colour). -/
  dmg : List (Nat × BitVec 32)
  /-- The table set by `setCgbPalette`, if any. -/
  cgb : Option (List (BitVec 32))
  deriving DecidableEq, Repr

/-- What a pixel is drawn with: the output palettes and the layer mask in force (R233, R234). -/
structure Look where
  palettes : Palettes
  layerMask : BitVec 3
  deriving DecidableEq, Repr

/-- The looks a frame is drawn with: each with the frame position from which it was in force, the last first
(notes/assumptions/51.md). -/
abbrev Picture := List (Nat × Look)

/-- Which picture the last completed frame is (R235): before the first frame, a frame drawn by the PPU (named by its draw, with the
machine model, the look in force at its end and the looks it was drawn with), or a frame event with the LCD off (R261). -/
inductive Frame where
  | initial
  | drawn (n : Nat) (m : Model) (final : Look) (picture : Picture)
  | lcdOff (m : Model)
  deriving DecidableEq, Repr

/-- What the peer on the link cable still does, a host input (R227, R266; notes/assumptions/58.md). -/
structure Peer where
  /-- P_SERIAL_IN: the bits it shifts in, the next first; with none left every bit is that of no peer. -/
  bits : List Bool
  /-- Whether it clocks a bit, for each M-cycle of a transfer with the external clock, the next first; with none left it does not. -/
  clocks : List Bool
  deriving DecidableEq, Repr

/-- Host-side state (R48) and the time coordinator's state of the current call (R262). -/
structure HostSide where
  hooks : Hooks
  breakpoints : List Breakpoint
  hitAddress : Option Addr
  stopRequested : Bool
  layerMask : BitVec 3
  palettes : Palettes
  /-- The looks of the frame the PPU draws (notes/assumptions/60.md). -/
  picture : Picture
  /-- P_RTC_MODE = cycles (R89). -/
  rtcCycleMode : Bool
  rtcDivisorOffset : Int
  cartPullUpTime : Int
  lastFrame : Frame
  produced : Nat
  frameOffset : Option Nat
  callStartTick : Nat
  /-- The samples of the current call, newest first. -/
  samples : List (BitVec 32)
  /-- What the host has seen, newest first. -/
  events : List HostEvent
  /-- The host's answers to the hook calls still to come. -/
  replies : List HookReply
  peer : Peer
  /-- The state-wide refused mark of R25. -/
  refusedMark : Bool
  deriving DecidableEq, Repr

/-- One backing store: (offset, byte) cells, offsets strictly rising. An offset that is not listed holds no value of its own: what it
reads as is said by `State.ramByte` for RAM (P_POWERON_RAM, R255) and `State.romRead` for ROM (no ROM byte: open bus, R70). -/
abbrev Mem := List Host.Cell

/-- The canonical form of a store: offsets strictly rising. -/
def Mem.wf : Mem → Bool
  | [] => true
  | [_] => true
  | x :: y :: m => decide (x.1 < y.1) && Mem.wf (y :: m)

/-- The machine. -/
structure State where
  model : Model
  /-- P_AGB_REGS. -/
  agbRegs : Bool
  /-- P_BIOS = present. -/
  bios : Bool
  loaded : Bool
  cpu : Cpu
  /-- IE, 0xFFFF (R38). -/
  ie : Byte
  /-- IF, 0xFF0F (R39). -/
  irq : Requests
  timer : Timer
  serial : Serial
  joypad : Joypad
  oamDma : OamDma
  hdma : Hdma
  ppu : Ppu
  /-- KEY1[7] (R42). -/
  doubleSpeed : Bool
  /-- KEY1[0] (R42). -/
  speedArmed : Bool
  /-- VBK[0] (R61). -/
  vbk : BitVec 1
  /-- SVBK[2:0] (R60). -/
  svbk : BitVec 3
  bootMapped : Bool
  bootDmg : List Byte
  bootCgb : List Byte
  /-- The boot ROM image of the running machine, taken from the stored ones by the last reset (R246). -/
  bootRom : List Byte
  cart : Cart
  rtc : Rtc
  rom : Mem
  vram : Mem
  wram : Mem
  oam : Mem
  hram : Mem
  cartRam : Mem
  /-- The byte last written to each register of P_PLATFORM (PPU without LCDC and LY, APU, wave RAM, CGB platform registers), by address. -/
  io : Mem
  /-- Whether a register `io` does not list holds P_POWERON_IO (the last reset was with BIOS, R254) or P_POSTBOOT_IO (R252). -/
  ioPowerOn : Bool
  /-- The cycle counter, in CPU ticks (R41). -/
  cycles : Nat
  /-- Base ticks since reset (R257, R258). -/
  baseTicks : Nat
  /-- The model's own counter of free values taken (R24). -/
  draws : Nat
  host : HostSide
  deriving DecidableEq, Repr

/-- Why a host call fails with a failure code (R267). No step of the machine raises one: the CPU has no faults (R209). Safe: each is
the result the spec gives the call. -/
inductive Fault where
  /-- Raised by `load` when P_CART_META rejects the image; safe. -/
  | invalidImage
  /-- Raised by `load` when P_CART_META names a controller outside R75; safe. -/
  | unsupportedMapper
  /-- Raised by `loadBios` for a wrong length and by `load` when no boot ROM of the model's kind is stored; safe. -/
  | biosMismatch
  /-- Raised by `getMemoryArea` with no cartridge or an index outside 0..5 (its false result); safe. -/
  | noCartridgeLoaded
  deriving DecidableEq, Repr

/-- What the model gives no meaning to (R25). -/
inductive Refusal where
  /-- Raised by an arm of `exec` whose instruction has no meaning yet; safe. No arm does. -/
  | notModelled (mnemonic : String)
  /-- Raised by a step, and by the host calls that need a cartridge, while none is loaded (R245, R262); safe. -/
  | noCartridge
  /-- Raised by a step of a machine whose refused mark is set: a hook made a call R236 forbids (R25); safe. -/
  | hookMisuse
  /-- Raised by a step whose fetched bytes decode to nothing; never, by R120 (`Laws.decode_fetched`); safe. -/
  | undecodable (e : String)
  /-- Raised by `setDmgPaletteColor`, the scanline setter and the other host calls on an index or length outside its domain
  (OutOfRangeParameter, R267); safe. -/
  | outOfRange
  /-- Raised by `setRegs` outside the domain of R45 and `setRtcRegs` with a value wider than its field (R266); safe. -/
  | badRegisterValue
  /-- Raised by `runFor`, `blitTo`, `saveSavedata` and `loadSavedata` on a buffer of the wrong size (R262, R235, R269); safe. -/
  | badBuffer
  /-- Raised by restoring a save state of another cartridge or model (R270); safe. -/
  | foreignState
  deriving DecidableEq, Repr

/-- CPU registers of the DMG without BIOS (R250) and the latches of R251. -/
def Cpu.reset : Cpu where
  a := 0x01
  f := 0xB0
  b := 0x00
  c := 0x13
  d := 0x00
  e := 0xD8
  h := 0x01
  l := 0x4D
  sp := 0xFFFE
  pc := 0x0100
  ime := false
  imePending := false
  imeBefore := false
  halted := false
  haltBug := false
  stopped := false
  lockedUp := false
  stallCount := 0

/-- The host side of a newly constructed engine (R245). -/
def HostSide.initial : HostSide where
  hooks := ⟨false, false, false, false, false, false, false, none⟩
  breakpoints := []
  hitAddress := none
  stopRequested := false
  layerMask := 0x7
  palettes := ⟨[], none⟩
  picture := []
  rtcCycleMode := true
  rtcDivisorOffset := 0
  cartPullUpTime := 0
  lastFrame := .initial
  produced := 0
  frameOffset := none
  callStartTick := 0
  samples := []
  events := []
  replies := []
  peer := ⟨[], []⟩
  refusedMark := false

/-- A 32 KiB cartridge without controller, RAM or RTC (the "Reset state" of 95_test_vectors.md), its controller registers at reset. -/
def Cart.plain : Cart where
  info := ⟨.noMbc, false, false, false, 2, 0, 0⟩
  ramEnabled := false
  bank1 := 1
  bank2 := 0
  mode := false
  romb := 1
  sel := 0
  ramb := 0
  lastValue := 0xFF
  lastTick := 0

/-- The RTC at load (R247). -/
def Rtc.zero : Rtc where
  s := 0
  m := 0
  h := 0
  d := 0
  halt := false
  carry := false
  sub := 0
  latchedS := 0
  latchedM := 0
  latchedH := 0
  latchedDL := 0
  latchedDH := 0
  latchArmed := false

/-- The registers of P_PLATFORM whose value after a reset without BIOS R252 gives, by address; the others take P_POSTBOOT_IO. -/
def postBootRegisters : Mem :=
  [(0xFF10, 0x80), (0xFF11, 0xBF), (0xFF12, 0xF3), (0xFF13, 0xFF), (0xFF14, 0xBF),
   (0xFF16, 0x3F), (0xFF17, 0x00), (0xFF18, 0xFF), (0xFF19, 0xBF),
   (0xFF1A, 0x7F), (0xFF1B, 0xFF), (0xFF1C, 0x9F), (0xFF1D, 0xFF), (0xFF1E, 0xBF)] ++
  [(0xFF20, 0xFF), (0xFF21, 0x00), (0xFF22, 0x00), (0xFF23, 0xBF),
   (0xFF24, 0x77), (0xFF25, 0xF3), (0xFF26, 0xF1)] ++
  [(0xFF42, 0x00), (0xFF43, 0x00), (0xFF45, 0x00), (0xFF47, 0xFC), (0xFF4A, 0x00), (0xFF4B, 0x00)]

/-- The machine right after reset: the DMG model booted without BIOS with a cartridge of `Cart.plain` whose image has nothing placed
in it (70_reset_and_hazards.md R249 to R255; notes/assumptions/2.md). -/
def State.reset : State where
  model := .dmg
  agbRegs := false
  bios := false
  loaded := true
  cpu := Cpu.reset
  ie := 0x00
  irq := ⟨true, false, false, false, false⟩
  timer := ⟨0xABCC, 0x00, 0x00, 0, false, false, false⟩
  serial := ⟨0x00, false, false, false, 0, 0⟩
  joypad := ⟨0, 0xF⟩
  oamDma := ⟨0xFF, false, false, 0⟩
  hdma := ⟨0, 0, false, 0, 0⟩
  ppu := ⟨0x91, 0⟩
  doubleSpeed := false
  speedArmed := false
  vbk := 0
  svbk := 0
  bootMapped := false
  bootDmg := []
  bootCgb := []
  bootRom := []
  cart := Cart.plain
  rtc := Rtc.zero
  rom := []
  vram := []
  wram := []
  oam := []
  hram := []
  cartRam := []
  io := postBootRegisters
  ioPowerOn := false
  cycles := 0
  baseTicks := 0
  draws := 0
  host := HostSide.initial

/-- The outcome of a step or an instruction. -/
abbrev Result := Host.Outcome State Fault Refusal

end Sys2Proof.Machine
end

