-- ==== Sys2Proof/Machine/Store.lean ====
section
/-! DEFINITION. Reading and writing the backing stores (20_memory.md R50), in the canonical form of `Mem.wf`. -/

namespace Sys2Proof.Machine

/-- The byte listed at an offset, if any. -/
def Mem.read : Mem → Nat → Option Byte
  | [], _ => none
  | (j, v) :: m, k => if k = j then some v else Mem.read m k

/-- List a byte at an offset, keeping offsets strictly rising. -/
def Mem.write : Mem → Nat → Byte → Mem
  | [], k, v => [(k, v)]
  | (j, w) :: m, k, v =>
    if k < j then (k, v) :: (j, w) :: m else if k = j then (k, v) :: m else (j, w) :: Mem.write m k v

/-- List bytes at consecutive offsets. -/
def Mem.writeAll (m : Mem) (k : Nat) : List Byte → Mem
  | [] => m
  | v :: vs => Mem.writeAll (Mem.write m k v) (k + 1) vs

/-- The store of a kind. -/
def State.store (s : State) : Store → Mem
  | .vram => s.vram
  | .wram => s.wram
  | .oam => s.oam
  | .hram => s.hram
  | .cartRam => s.cartRam

/-- The machine with one store replaced. -/
def State.setStore (s : State) (k : Store) (m : Mem) : State :=
  match k with
  | .vram => { s with vram := m }
  | .wram => { s with wram := m }
  | .oam => { s with oam := m }
  | .hram => { s with hram := m }
  | .cartRam => { s with cartRam := m }

/-- The byte a RAM store holds at an offset: the one listed, or P_POWERON_RAM (R255). -/
def State.ramByte (s : State) (k : Store) (off : Nat) : Byte :=
  ((s.store k).read off).getD (Config.powerOnRam k s.model off)

/-- Store a byte in a RAM store. -/
def State.setRamByte (s : State) (k : Store) (off : Nat) (v : Byte) : State :=
  s.setStore k ((s.store k).write off v)

/-- The byte last written to a register of P_PLATFORM, or its value after reset: P_POSTBOOT_IO or P_POWERON_IO (R252, R254). -/
def State.ioLatch (s : State) (a : Addr) : Byte :=
  (s.io.read a.toNat).getD (if s.ioPowerOn then Config.powerOnIo s.model a else Config.postBootIo s.model a)

/-- Take the next free value's number (R24). -/
def State.nextDraw (s : State) : State := { s with draws := s.draws + 1 }

/-- Remember the last value on the cartridge bus (R70). -/
def State.noteCart (s : State) (v : Byte) : State :=
  { s with cart := { s.cart with lastValue := v, lastTick := s.cycles } }

/-- An open-bus read of the cartridge bus: the draw P_OPEN_BUS (R70). -/
def State.openBus (s : State) (a : Addr) : Byte × State :=
  (Config.openBus s.draws a s.cart.lastValue (s.cycles - s.cart.lastTick) s.host.cartPullUpTime, s.nextDraw)

end Sys2Proof.Machine
end

