-- ==== Sys2Proof/Machine/Cartridge.lean ====
section
/-! DEFINITION. The bank controllers (20_memory.md R73 to R82) and the real-time clock (R83 to R89). -/

namespace Sys2Proof.Machine

/-- The bank of 0x0000-0x3FFF before reduction (R77 to R82). -/
def Cart.rom0Value (c : Cart) : Nat :=
  match c.info.kind with
  | .mbc1 =>
    if c.mode then (if c.info.multicart then c.bank2.toNat * 16 else c.bank2.toNat * 32) else 0
  | .noMbc | .mbc2 | .mbc3 | .mbc5 => 0

/-- The bank of 0x4000-0x7FFF before reduction (R77 to R82). -/
def Cart.romxValue (c : Cart) : Nat :=
  match c.info.kind with
  | .noMbc => 1
  | .mbc1 =>
    if c.info.multicart then c.bank2.toNat * 16 + c.bank1.toNat % 16 else c.bank2.toNat * 32 + c.bank1.toNat
  | .mbc2 | .mbc3 | .mbc5 => c.romb.toNat

/-- The cartridge RAM bank before reduction (R77 to R82), where the controller's rule gives one: not under MBC2, nor under an MBC3 whose
SEL selects no RAM. -/
def Cart.ramValue (c : Cart) : Option Nat :=
  match c.info.kind with
  | .noMbc => some 0
  | .mbc1 => some (if c.mode then c.bank2.toNat else 0)
  | .mbc2 => none
  | .mbc3 => if c.sel.toNat < 4 then some c.sel.toNat else none
  | .mbc5 => some c.ramb.toNat

/-- `rom0Bank`, reduced modulo P_ROM_BANKS (R74). -/
def Cart.rom0Bank (c : Cart) : Nat := c.rom0Value % c.info.romBanks

/-- `romxBank`, reduced modulo P_ROM_BANKS (R74). -/
def Cart.romxBank (c : Cart) : Nat := c.romxValue % c.info.romBanks

/-- `ramBank`, reduced modulo P_RAM_BANKS (R74), where the rules give one: not without RAM banks. -/
def Cart.ramBank (c : Cart) : Option Nat := if c.info.ramBanks = 0 then none else c.ramValue.map (· % c.info.ramBanks)

/-- The offset in ROM that an address below 0x8000 reads (R58). -/
def Cart.romOffset (c : Cart) (a : Addr) : Nat :=
  if a.toNat < 0x4000 then c.rom0Bank * 0x4000 + a.toNat else c.romxBank * 0x4000 + (a.toNat - 0x4000)

/-- The RAM-enable test (R76). -/
def ramEnableValue (v : Byte) : Bool := field4 v == 0xA

/-- A value with 0 replaced by 1: the zero check of the ROM bank registers (R78, R80, R81). -/
def zeroToOne {n : Nat} (v : BitVec n) : BitVec n := if v = 0 then 1 else v

/-- A write to 0x0000-0x7FFF, on the bank-controller registers (R77 to R82); the RTC latch of R85 is `State.latchRtc`. -/
def Cart.control (c : Cart) (a : Addr) (v : Byte) : Cart :=
  let n := a.toNat
  match c.info.kind with
  | .noMbc => c
  | .mbc1 =>
    if n < 0x2000 then { c with ramEnabled := ramEnableValue v }
    else if n < 0x4000 then { c with bank1 := zeroToOne (v.extractLsb' 0 5) }
    else if n < 0x6000 then { c with bank2 := field2 v 0 }
    else { c with mode := bit v 0 }
  | .mbc2 =>
    if n < 0x4000 then
      if a.getLsbD 8 then { c with romb := (zeroToOne (field4 v)).setWidth 9 }
      else { c with ramEnabled := ramEnableValue v }
    else c
  | .mbc3 =>
    if n < 0x2000 then { c with ramEnabled := ramEnableValue v }
    else if n < 0x4000 then { c with romb := (zeroToOne (v.extractLsb' 0 7)).setWidth 9 }
    else if n < 0x6000 then { c with sel := field4 v }
    else c
  | .mbc5 =>
    if n < 0x2000 then { c with ramEnabled := ramEnableValue v }
    else if n < 0x3000 then { c with romb := c.romb.extractLsb' 8 1 ++ v }
    else if n < 0x4000 then { c with romb := v.extractLsb' 0 1 ++ c.romb.extractLsb' 0 8 }
    else if n < 0x6000 then { c with ramb := field4 v }
    else c

/-- The five RTC registers of R84. -/
inductive RtcReg where
  | s
  | m
  | h
  | dl
  | dh
  deriving DecidableEq, Repr

/-- What 0xA000-0xBFFF selects: a byte of RAM, a nibble of MBC2 RAM, an RTC register, or nothing (R59, R80, R81). -/
inductive CartWindow where
  | ram (off : Nat)
  | nibble (off : Nat)
  | rtc (r : RtcReg)
  | openBus
  deriving DecidableEq, Repr

/-- The RAM offset of R59 in a bank, reduced modulo the RAM size in bytes. -/
def Cart.ramOffset (c : Cart) (bank : Nat) (a : Addr) : Nat :=
  (bank * 0x2000 + (a.toNat - 0xA000)) % c.info.ramBytes

/-- The RAM window of a controller whose RAM is enabled or not (R59): open where there is no RAM bank. -/
def Cart.ramWindow (c : Cart) (enabled : Bool) (a : Addr) : CartWindow :=
  match c.ramBank with
  | some bank => if enabled then .ram (c.ramOffset bank a) else .openBus
  | none => .openBus

/-- The RTC register that SEL names (R84). -/
def rtcRegOf (sel : BitVec 4) : Option RtcReg :=
  match sel.toNat with
  | 8 => some .s
  | 9 => some .m
  | 10 => some .h
  | 11 => some .dl
  | 12 => some .dh
  | _ => none

/-- What 0xA000-0xBFFF selects under each controller (R77 to R82). -/
def Cart.window (c : Cart) (a : Addr) : CartWindow :=
  match c.info.kind with
  | .noMbc => c.ramWindow true a
  | .mbc1 | .mbc5 => c.ramWindow c.ramEnabled a
  | .mbc2 => if c.ramEnabled then .nibble (a.toNat % 0x200) else .openBus
  | .mbc3 =>
    if c.sel.toNat < 4 then c.ramWindow c.ramEnabled a
    else if c.ramEnabled && c.info.hasRtc then
      match rtcRegOf c.sel with
      | some r => .rtc r
      | none => .openBus
    else .openBus

/-- The live DH register `{CARRY, HALT, 00000, D[8]}` (R84). -/
def Rtc.dh (r : Rtc) : Byte := bitAt 7 r.carry ||| bitAt 6 r.halt ||| bitAt 0 (r.d.getLsbD 8)

/-- The live DL register D[7:0] (R84). -/
def Rtc.dl (r : Rtc) : Byte := r.d.extractLsb' 0 8

/-- A write of the latch window (R85). -/
def Rtc.latch (r : Rtc) (v : Byte) : Rtc :=
  let r := if r.latchArmed && v == 0x01 then
      { r with latchedS := r.s, latchedM := r.m, latchedH := r.h, latchedDL := r.dl, latchedDH := r.dh }
    else r
  { r with latchArmed := v == 0x00 }

/-- A CPU read of an RTC register: the latched snapshot (R86). -/
def Rtc.readLatched (r : Rtc) : RtcReg → Byte
  | .s => r.latchedS.setWidth 8
  | .m => r.latchedM.setWidth 8
  | .h => r.latchedH.setWidth 8
  | .dl => r.latchedDL
  | .dh => r.latchedDH &&& 0xC1

/-- A CPU write of an RTC register: the live counter (R87). -/
def Rtc.writeLive (r : Rtc) (k : RtcReg) (v : Byte) : Rtc :=
  match k with
  | .s => { r with s := v.extractLsb' 0 6, sub := 0 }
  | .m => { r with m := v.extractLsb' 0 6 }
  | .h => { r with h := v.extractLsb' 0 5 }
  | .dl => { r with d := r.d.extractLsb' 8 1 ++ v }
  | .dh => { r with d := v.extractLsb' 0 1 ++ r.dl, halt := bit v 6, carry := bit v 7 }

/-- One elapsed RTC second (R88). -/
def Rtc.second (r : Rtc) : Rtc :=
  if r.halt then r
  else
    let carryM := r.s == 59
    let carryH := carryM && r.m == 59
    let carryD := carryH && r.h == 23
    { r with
      s := if carryM then 0 else r.s + 1
      m := if carryM then (if r.m == 59 then 0 else r.m + 1) else r.m
      h := if carryH then (if r.h == 23 then 0 else r.h + 1) else r.h
      d := if carryD then (if r.d == 511 then 0 else r.d + 1) else r.d
      carry := r.carry || (carryD && r.d == 511) }

/-- `n` elapsed RTC seconds (R90). -/
def Rtc.seconds (r : Rtc) : Nat → Rtc
  | 0 => r
  | n + 1 => Rtc.seconds r.second n

/-- One base tick of the RTC in cycle mode (R89): a second elapses every `period` base ticks, counted by the sub-second counter. -/
def Rtc.tick (r : Rtc) (period : Int) : Rtc :=
  if r.halt then r
  else if (r.sub : Int) + 1 < period then { r with sub := r.sub + 1 }
  else { r.second with sub := 0 }

/-- A write to 0x0000-0x7FFF (R73): the controller's registers, and the RTC latch window of an MBC3 with RTC (R81, R85). -/
def State.bankWrite (s : State) (a : Addr) (v : Byte) : State :=
  { s with
    cart := { s.cart.control a v with lastValue := v, lastTick := s.cycles }
    rtc := if s.cart.info.kind == .mbc3 && s.cart.info.hasRtc && decide (0x6000 ≤ a.toNat) then s.rtc.latch v else s.rtc }

/-- A read of ROM (R58); where no ROM byte exists, open bus (R70). -/
def State.romRead (s : State) (a : Addr) : Byte × State :=
  match s.rom.read (s.cart.romOffset a) with
  | some v => (v, s.noteCart v)
  | none => s.openBus a

/-- A read of 0xA000-0xBFFF (R59, R80, R86). -/
def State.cartRead (s : State) (a : Addr) : Byte × State :=
  match s.cart.window a with
  | .ram off => (s.ramByte .cartRam off, s.noteCart (s.ramByte .cartRam off))
  | .nibble off =>
    let v := 0xF0 ||| (s.ramByte .cartRam off &&& 0x0F)
    (v, s.noteCart v)
  | .rtc r => (s.rtc.readLatched r, s.noteCart (s.rtc.readLatched r))
  | .openBus => s.openBus a

/-- A write to 0xA000-0xBFFF (R59, R80, R87). -/
def State.cartWrite (s : State) (a : Addr) (v : Byte) : State :=
  let t := s.noteCart v
  match s.cart.window a with
  | .ram off => t.setRamByte .cartRam off v
  | .nibble off => t.setRamByte .cartRam off (v &&& 0x0F)
  | .rtc r => { t with rtc := s.rtc.writeLive r v }
  | .openBus => t

end Sys2Proof.Machine
end

