-- ==== Sys2Proof/Machine/Timer.lean ====
section
/-! DEFINITION. The timer unit (60_exceptions.md R217 to R223) and the serial unit (R226). -/

namespace Sys2Proof.Machine

/-- The system-counter bit that TAC[1:0] selects (R220). -/
def timerBit (tac : BitVec 3) : Nat :=
  match (tac.extractLsb' 0 2).toNat with
  | 0 => 9
  | 1 => 3
  | 2 => 5
  | _ => 7

/-- The timer input signal `sysCounter[sel] & TAC[2]` (R221). -/
def Timer.signal (t : Timer) : Bool := t.sysCounter.getLsbD (timerBit t.tac) && t.tac.getLsbD 2

/-- One increment of TIMA; from 0xFF it is an overflow of the current M-cycle (R221, R223). -/
def Timer.increment (t : Timer) : Timer := { t with tima := t.tima + 1, overflow := t.overflow || t.tima == 0xFF }

/-- Change the counter or TAC: TIMA increments when the input signal falls from 1 to 0 (R219, R220, R221). -/
def Timer.change (t : Timer) (sysCounter : BitVec 16) (tac : BitVec 3) : Timer :=
  let t' := { t with sysCounter := sysCounter, tac := tac }
  if t.signal && !t'.signal then t'.increment else t'

/-- A write to DIV (R219). -/
def Timer.writeDiv (t : Timer) : Timer := t.change 0 t.tac

/-- A write to TAC (R220). -/
def Timer.writeTac (t : Timer) (v : Byte) : Timer := t.change t.sysCounter (field3 v)

/-- A write to TIMA: it cancels a pending reload, and is ignored in the M-cycle after a reload (R223). -/
def Timer.writeTima (t : Timer) (v : Byte) : Timer :=
  if t.reloadedNow then t else { t with tima := v, reloadPending := false }

/-- A write to TMA: in the M-cycle after a reload it also sets TIMA (R222, R223). -/
def Timer.writeTma (t : Timer) (v : Byte) : Timer :=
  { t with tma := v, tima := if t.reloadedNow then v else t.tima }

/-- The timer interrupt request of the end of this M-cycle (R223). -/
def Timer.requests (t : Timer) : Bool := t.reloadPending

/-- The timer's part of an M-cycle, phase 3a of 70_reset_and_hazards.md R259: the counter advances by 4 CPU ticks unless the CPU is in
stop mode, the falling edge is evaluated, and the reload actions of R223 are done. -/
def Timer.endCycle (t : Timer) (counting : Bool) : Timer :=
  let t' := if counting then t.change (t.sysCounter + 4) t.tac else t
  { t' with
    tima := if t.reloadPending then t.tma else t'.tima
    overflow := false
    reloadPending := t'.overflow
    reloadedNow := t.reloadPending }

/-- The counter reset of STOP and of the speed switch (46_system.md R204, R205), after the M-cycle of STOP's operand fetch: an
overflow it causes belongs to that M-cycle (notes/assumptions/17.md). -/
def Timer.stopReset (t : Timer) : Timer :=
  let t' := t.writeDiv
  { t' with overflow := false, reloadPending := t'.reloadPending || t'.overflow }

/-- What SC reads (R226): bit 1 is the fast clock in the CGB model only. -/
def Serial.readSc (p : Serial) (model : Model) : Byte :=
  match model with
  | .cgb => 0x7C ||| bitAt 7 p.busy ||| bitAt 1 p.fast ||| bitAt 0 p.internal
  | .dmg | .cgbDmg => 0x7E ||| bitAt 7 p.busy ||| bitAt 0 p.internal

/-- A write to SC (R226): bit 7 starts a transfer from its first bit. -/
def Serial.writeSc (p : Serial) (model : Model) (v : Byte) : Serial :=
  let q := { p with
    busy := bit v 7
    fast := match model with
      | .cgb => bit v 1
      | .dmg | .cgbDmg => p.fast
    internal := bit v 0 }
  if bit v 7 then { q with ticks := 0, bits := 0 } else q

/-- Whether a transfer with the internal clock is in progress (R226). -/
def Serial.running (p : Serial) : Bool := p.busy && p.internal

/-- Whether a transfer with the external clock is in progress (R226). -/
def Serial.waiting (p : Serial) : Bool := p.busy && !p.internal

/-- The bit the peer shifts in next (R227). -/
def Peer.bit (q : Peer) : Bool := q.bits.headD Config.serialIn

/-- Whether the peer clocks a bit in this M-cycle of a transfer with the external clock (R226, R227). -/
def Peer.clock (q : Peer) : Bool := q.clocks.headD false

/-- Whether this M-cycle shifts a bit (R226): with the internal clock when 4 more CPU ticks complete it, with the external clock when
the peer clocks one. -/
def Serial.bitDone (p : Serial) (q : Peer) : Bool :=
  if p.internal then p.running && decide (Config.serialBitTicks p.fast ≤ p.ticks + 4) else p.waiting && q.clock

/-- Whether this M-cycle ends the transfer (R226). -/
def Serial.completes (p : Serial) (q : Peer) : Bool := p.bitDone q && decide (7 ≤ p.bits)

/-- One bit shifted: out at bit 7, in at bit 0 (R226). -/
def Serial.shift (p : Serial) (q : Peer) : Serial :=
  { p with
    sb := p.sb.extractLsb' 0 7 ++ BitVec.ofBool q.bit
    ticks := 0
    bits := if p.completes q then 0 else p.bits + 1
    busy := !p.completes q }

/-- The serial unit's part of an M-cycle, phase 3c of R259 (R226, R227). -/
def Serial.endCycle (p : Serial) (q : Peer) : Serial :=
  if p.bitDone q then p.shift q
  else if p.running then { p with ticks := p.ticks + 4 }
  else p

/-- The peer after an M-cycle of the serial unit: a bit shifted in is taken, and so is what it does in an M-cycle of a transfer with the
external clock (R227). -/
def Peer.endCycle (q : Peer) (p : Serial) : Peer where
  bits := if p.bitDone q then q.bits.tail else q.bits
  clocks := if p.waiting then q.clocks.tail else q.clocks

end Sys2Proof.Machine
end

