-- ==== Sys2Proof/Machine/Bus.lean ====
section
/-! DEFINITION. The bus dispatcher (20_memory.md R55 to R70): which region an address is in, what a read of it returns and what a write
does. These are the accesses of R71 (`externalRead`, `externalWrite`); the CPU's own, with its input poll and the OAM DMA conflict,
are in Devices.lean. -/

namespace Sys2Proof.Machine

/-- The registers of the I/O window (R57). -/
inductive IoReg where
  | p1
  | sb
  | sc
  | div
  | tima
  | tma
  | tac
  | iflags
  | lcdc
  | ly
  | dma
  | key1
  | vbk
  | bootOff
  | hdmaSrcHigh
  | hdmaSrcLow
  | hdmaDstHigh
  | hdmaDstLow
  | hdmaControl
  | svbk
  /-- A register of P_PLATFORM: PPU, APU, wave RAM, and the CGB's own. -/
  | platform
  | unmapped
  deriving DecidableEq, Repr

/-- A register of the CGB model only: unmapped in the others (R42, R60, R61, R229). -/
def cgbOnly (model : Model) (r : IoReg) : IoReg :=
  match model with
  | .cgb => r
  | .dmg | .cgbDmg => .unmapped

/-- The table of the I/O window (R57). -/
def ioReg (model : Model) (a : Addr) : IoReg :=
  let n := a.toNat
  if n = 0xFF00 then .p1
  else if n = 0xFF01 then .sb
  else if n = 0xFF02 then .sc
  else if n = 0xFF04 then .div
  else if n = 0xFF05 then .tima
  else if n = 0xFF06 then .tma
  else if n = 0xFF07 then .tac
  else if n = 0xFF0F then .iflags
  else if 0xFF10 ≤ n ∧ n ≤ 0xFF26 then .platform
  else if 0xFF30 ≤ n ∧ n ≤ 0xFF3F then .platform
  else if n = 0xFF40 then .lcdc
  else if n = 0xFF44 then .ly
  else if n = 0xFF46 then .dma
  else if 0xFF41 ≤ n ∧ n ≤ 0xFF4B then .platform
  else if n = 0xFF4D then cgbOnly model .key1
  else if n = 0xFF4F then cgbOnly model .vbk
  else if n = 0xFF50 then .bootOff
  else if n = 0xFF51 then cgbOnly model .hdmaSrcHigh
  else if n = 0xFF52 then cgbOnly model .hdmaSrcLow
  else if n = 0xFF53 then cgbOnly model .hdmaDstHigh
  else if n = 0xFF54 then cgbOnly model .hdmaDstLow
  else if n = 0xFF55 then cgbOnly model .hdmaControl
  else if n = 0xFF70 then cgbOnly model .svbk
  else if n = 0xFF56 ∨ (0xFF68 ≤ n ∧ n ≤ 0xFF6C) ∨ (0xFF72 ≤ n ∧ n ≤ 0xFF77) then
    match model with
    | .dmg => .unmapped
    | .cgb | .cgbDmg => .platform
  else .unmapped

/-- The regions of the address map (R55), with the offset in the region's store. -/
inductive Region where
  /-- ROM, or the boot ROM over it. -/
  | low (a : Addr)
  | vram (off : Nat)
  | cart (a : Addr)
  | wram (off : Nat)
  | oam (off : Nat)
  | unusable
  | io (r : IoReg)
  | hram (off : Nat)
  | ie
  deriving DecidableEq, Repr

/-- The WRAM bank of 0xD000-0xDFFF (R60). -/
def State.wramBank (s : State) : Nat :=
  match s.model with
  | .cgb => if s.svbk = 0 then 1 else s.svbk.toNat
  | .dmg | .cgbDmg => 1

/-- The VRAM bank (R61). -/
def State.vramBank (s : State) : Nat :=
  match s.model with
  | .cgb => s.vbk.toNat
  | .dmg | .cgbDmg => 0

/-- The WRAM offset of an address offset from 0xC000 (or, for the echo, from 0xE000): bank 0, then the switchable bank (R60, R62). -/
def State.wramOffset (s : State) (k : Nat) : Nat := if k < 0x1000 then k else s.wramBank * 0x1000 + (k - 0x1000)

/-- The VRAM offset of an address offset from 0x8000 (R61). -/
def State.vramOffset (s : State) (k : Nat) : Nat := s.vramBank * 0x2000 + k

/-- The region of an address (R55). -/
def State.region (s : State) (a : Addr) : Region :=
  let n := a.toNat
  if n < 0x8000 then .low a
  else if n < 0xA000 then .vram (s.vramOffset (n - 0x8000))
  else if n < 0xC000 then .cart a
  else if n < 0xE000 then .wram (s.wramOffset (n - 0xC000))
  else if n < 0xFE00 then .wram (s.wramOffset (n - 0xE000))
  else if n < 0xFEA0 then .oam (n - 0xFE00)
  else if n < 0xFF00 then .unusable
  else if n < 0xFF80 then .io (ioReg s.model a)
  else if n < 0xFFFF then .hram (n - 0xFF80)
  else .ie

/-- The stored boot ROM image of the model's kind (R246). -/
def State.storedBootRom (s : State) : List Byte :=
  match s.model with
  | .dmg => s.bootDmg
  | .cgb | .cgbDmg => s.bootCgb

/-- Whether an address reads the boot ROM (R65). -/
def State.inBootRom (s : State) (a : Addr) : Bool :=
  s.bootMapped && (decide (a.toNat < 0x100) ||
    (match s.model with
     | .dmg => false
     | .cgb | .cgbDmg => decide (0x200 ≤ a.toNat) && decide (a.toNat < 0x900)))

/-- LCDC[7]: the display is enabled (R231). -/
def State.lcdOn (s : State) : Bool := bit s.ppu.lcdc 7

/-- LY (R231). -/
def State.ly (s : State) : Byte := if s.lcdOn then BitVec.ofNat 8 (s.ppu.lineTick / Config.lineTicks) else 0

/-- `VramAccessible()` (R68): always with the display disabled, else a draw. -/
def State.vramAccessible (s : State) : Bool := !s.lcdOn || Config.vramAccessible s.draws

/-- The PPU's part of `OamAccessible()` (R68): outside modes 2 and 3. -/
def State.oamWindow (s : State) : Bool := !s.lcdOn || Config.oamAccessible s.draws

/-- `OamAccessible()` (R68). -/
def State.oamAccessible (s : State) : Bool := !s.oamDma.active && s.oamWindow

/-- `DmaBlocks(a)` (R69). -/
def State.dmaBlocks (s : State) (a : Addr) : Bool := s.oamDma.active && decide (a.toNat < 0xFF00)

/-- IF as a byte: bits 7:5 read 1 (R39). -/
def Requests.toByte (q : Requests) : Byte :=
  0xE0 ||| bitAt 4 q.joypad ||| bitAt 3 q.serial ||| bitAt 2 q.timer ||| bitAt 1 q.stat ||| bitAt 0 q.vblank

/-- The requests a write to IF stores (R39). -/
def Requests.ofByte (v : Byte) : Requests := ⟨bit v 0, bit v 1, bit v 2, bit v 3, bit v 4⟩

/-- P1 with the last computed input lines (R224). -/
def Joypad.read (j : Joypad) : Byte := (0b11#2 ++ j.select) ++ j.lastLines

/-- KEY1 (R42). -/
def State.key1 (s : State) : Byte := 0x7E ||| bitAt 7 s.doubleSpeed ||| bitAt 0 s.speedArmed

/-- What HDMA5 reads (R229). -/
def Hdma.readControl (d : Hdma) : Byte := if d.active then BitVec.ofNat 8 ((d.blocks - 1) % 128) else 0xFF

/-- The value of an I/O register (R57 and each register's rule). -/
def State.ioValue (s : State) (a : Addr) : IoReg → Byte
  | .p1 => s.joypad.read
  | .sb => s.serial.sb
  | .sc => s.serial.readSc s.model
  | .div => hiByte s.timer.sysCounter
  | .tima => s.timer.tima
  | .tma => s.timer.tma
  | .tac => 0xF8 ||| s.timer.tac.setWidth 8
  | .iflags => s.irq.toByte
  | .lcdc => Config.platformRead s.draws a s.ppu.lcdc
  | .ly => s.ly
  | .dma => s.oamDma.reg
  | .key1 => s.key1
  | .vbk => 0xFE ||| s.vbk.setWidth 8
  | .bootOff => 0xFF
  | .hdmaSrcHigh => 0xFF
  | .hdmaSrcLow => 0xFF
  | .hdmaDstHigh => 0xFF
  | .hdmaDstLow => 0xFF
  | .hdmaControl => s.hdma.readControl
  | .svbk => 0xF8 ||| s.svbk.setWidth 8
  | .platform => Config.platformRead s.draws a (s.ioLatch a)
  | .unmapped => 0xFF

/-- A write to HDMA5 (R229). The blocks of a general-purpose transfer wait for the end of the M-cycle of the write; a write outside an
M-cycle of its own waits for the next one, and a second such write before it replaces the first (notes/assumptions/45.md). -/
def Hdma.writeControl (d : Hdma) (v : Byte) : Hdma :=
  let n := (v.extractLsb' 0 7).toNat + 1
  if bit v 7 then { d with active := true, blocks := n }
  else if d.active then { d with active := false }
  else { d with pending := n }

/-- A write to LCDC: turning the display on restarts the frame at line 0 (R231). -/
def Ppu.writeLcdc (p : Ppu) (v : Byte) : Ppu :=
  { p with lcdc := v, lineTick := if !bit p.lcdc 7 && bit v 7 then 0 else p.lineTick }

/-- The write action of an I/O register (R57 and each register's rule). The input poll of a CPU write to P1 is in Devices.lean. A write
outside an M-cycle of its own (R71) takes the next device phase as that of its M-cycle (notes/assumptions/45.md). -/
def State.ioWrite (s : State) (a : Addr) (v : Byte) : IoReg → State
  | .p1 => { s with joypad := { s.joypad with select := field2 v 4 } }
  | .sb => { s with serial := { s.serial with sb := v } }
  | .sc => { s with serial := s.serial.writeSc s.model v }
  | .div => { s with timer := s.timer.writeDiv }
  | .tima => { s with timer := s.timer.writeTima v }
  | .tma => { s with timer := s.timer.writeTma v }
  | .tac => { s with timer := s.timer.writeTac v }
  | .iflags => { s with irq := Requests.ofByte v }
  | .lcdc => { s with ppu := s.ppu.writeLcdc v }
  | .ly => s
  | .dma => { s with oamDma := ⟨v, true, false, 0⟩ }
  | .key1 => { s with speedArmed := bit v 0 }
  | .vbk => { s with vbk := v.extractLsb' 0 1 }
  | .bootOff => { s with bootMapped := s.bootMapped && !bit v 0 }
  | .hdmaSrcHigh => { s with hdma := { s.hdma with src := word v (loByte s.hdma.src) } }
  | .hdmaSrcLow => { s with hdma := { s.hdma with src := word (hiByte s.hdma.src) (v &&& 0xF0) } }
  | .hdmaDstHigh => { s with hdma := { s.hdma with dst := word (v &&& 0x1F) (loByte s.hdma.dst) } }
  | .hdmaDstLow => { s with hdma := { s.hdma with dst := word (hiByte s.hdma.dst) (v &&& 0xF0) } }
  | .hdmaControl => { s with hdma := s.hdma.writeControl v }
  | .svbk => { s with svbk := field3 v }
  | .platform => { s with io := s.io.write a.toNat v }
  | .unmapped => s

/-- P_UNUSABLE_READ (R63): in the DMG model 0x00 outside PPU modes 2 and 3 and 0xFF inside them, else a draw. -/
def State.unusableValue (s : State) (a : Addr) : Byte :=
  match s.model with
  | .dmg => if s.oamWindow then 0x00 else 0xFF
  | .cgb | .cgbDmg => Config.unusableRead s.draws a

/-- A read of the mapped boot ROM (R65): the byte of the image in force, or a draw where it has none (notes/assumptions/43.md). -/
def State.bootRead (s : State) (a : Addr) : Byte × State :=
  match s.bootRom[a.toNat]? with
  | some v => (v, s)
  | none => (Config.absentBootByte s.draws a, s.nextDraw)

/-- Read resolution (R66) without the OAM DMA conflict: the value of an access of kind external, and the machine after it. A boot-ROM
read takes the image's byte at the address itself (notes/assumptions/55.md). -/
def State.resolveRead (s : State) (a : Addr) : Byte × State :=
  match s.region a with
  | .low a => if s.inBootRom a then s.bootRead a else s.romRead a
  | .vram off => (if s.vramAccessible then s.ramByte .vram off else 0xFF, s.nextDraw)
  | .cart a => s.cartRead a
  | .wram off => (s.ramByte .wram off, s)
  | .oam off => (if s.oamAccessible then s.ramByte .oam off else 0xFF, s.nextDraw)
  | .unusable => (s.unusableValue a, s.nextDraw)
  | .io r => (s.ioValue a r, s.nextDraw)
  | .hram off => (s.ramByte .hram off, s)
  | .ie => (s.ie, s)

/-- Write resolution (R67). -/
def State.resolveWrite (s : State) (a : Addr) (v : Byte) : State :=
  if s.dmaBlocks a then s
  else
    match s.region a with
    | .low a => s.bankWrite a v
    | .vram off => { s.nextDraw with vram := if s.vramAccessible then s.vram.write off v else s.vram }
    | .cart a => s.cartWrite a v
    | .wram off => s.setRamByte .wram off v
    | .oam off => { s.nextDraw with oam := if s.oamAccessible then s.oam.write off v else s.oam }
    | .unusable => s
    | .io r => s.ioWrite a v r
    | .hram off => s.setRamByte .hram off v
    | .ie => { s with ie := v }

end Sys2Proof.Machine
end

