-- ==== Sys2Proof/Machine/Registers.lean ====
section
/-! DEFINITION. Reading and writing the CPU registers (10_state.md R30 to R34, R44). -/

namespace Sys2Proof.Machine

/-- `x[r]` (R19). -/
def Cpu.reg (c : Cpu) : Reg8 → Byte
  | .a => c.a
  | .b => c.b
  | .c => c.c
  | .d => c.d
  | .e => c.e
  | .h => c.h
  | .l => c.l

/-- `x[r] <- v` (R19). -/
def Cpu.setReg (c : Cpu) (r : Reg8) (v : Byte) : Cpu :=
  match r with
  | .a => { c with a := v }
  | .b => { c with b := v }
  | .c => { c with c := v }
  | .d => { c with d := v }
  | .e => { c with e := v }
  | .h => { c with h := v }
  | .l => { c with l := v }

/-- F as read: bits 3:0 always 0 (R34). -/
def Cpu.flags (c : Cpu) : Byte := c.f &&& 0xF0

/-- A write to F stores only bits 7:4 (R34). -/
def Cpu.setFlags (c : Cpu) (v : Byte) : Cpu := { c with f := v &&& 0xF0 }

/-- `rr(dd)` (R19, R100). -/
def Cpu.pair (c : Cpu) : Pair → Addr
  | .bc => word c.b c.c
  | .de => word c.d c.e
  | .hl => word c.h c.l
  | .sp => c.sp

/-- `rr(dd) <- v` (R19, R31). -/
def Cpu.setPair (c : Cpu) (p : Pair) (v : Addr) : Cpu :=
  match p with
  | .bc => { c with b := hiByte v, c := loByte v }
  | .de => { c with d := hiByte v, e := loByte v }
  | .hl => { c with h := hiByte v, l := loByte v }
  | .sp => { c with sp := v }

/-- `rr(qq)` (R101): AF is A and F as read. -/
def Cpu.stackPair (c : Cpu) : StackPair → Addr
  | .bc => c.pair .bc
  | .de => c.pair .de
  | .hl => c.pair .hl
  | .af => word c.a c.flags

/-- `rr(qq) <- v` (R101): F drops its low nibble (R147). -/
def Cpu.setStackPair (c : Cpu) (q : StackPair) (v : Addr) : Cpu :=
  match q with
  | .bc => c.setPair .bc v
  | .de => c.setPair .de v
  | .hl => c.setPair .hl v
  | .af => (c.setReg .a (hiByte v)).setFlags (loByte v)

/-- `x[r]` (R19). -/
def State.reg (s : State) (r : Reg8) : Byte := s.cpu.reg r

/-- `x[r] <- v` (R19). -/
def State.setReg (s : State) (r : Reg8) (v : Byte) : State := { s with cpu := s.cpu.setReg r v }

/-- F as read (R34). -/
def State.flags (s : State) : Byte := s.cpu.flags

/-- `F <- v` (R34). -/
def State.setFlags (s : State) (v : Byte) : State := { s with cpu := s.cpu.setFlags v }

/-- `SP <- v`. -/
def State.setSp (s : State) (v : Addr) : State := { s with cpu := { s.cpu with sp := v } }

/-- `PC <- v`. -/
def State.setPc (s : State) (v : Addr) : State := { s with cpu := { s.cpu with pc := v } }

/-- `rr(dd)` (R19, R100). -/
def State.pair (s : State) (p : Pair) : Addr := s.cpu.pair p

/-- `rr(dd) <- v` (R19, R31). -/
def State.setPair (s : State) (p : Pair) (v : Addr) : State := { s with cpu := s.cpu.setPair p v }

/-- `rr(qq)` (R101). -/
def State.stackPair (s : State) (q : StackPair) : Addr := s.cpu.stackPair q

/-- `rr(qq) <- v` (R101). -/
def State.setStackPair (s : State) (q : StackPair) (v : Addr) : State := { s with cpu := s.cpu.setStackPair q v }

/-- HL as an address. -/
def State.hl (s : State) : Addr := s.pair .hl

/-- The slots of `getRegs`: PC, SP, A, B, C, D, E, F, H, L (R44). -/
def State.registerSlots (s : State) : List Nat :=
  [s.cpu.pc.toNat, s.cpu.sp.toNat, s.cpu.a.toNat, s.cpu.b.toNat, s.cpu.c.toNat, s.cpu.d.toNat, s.cpu.e.toNat,
   s.flags.toNat, s.cpu.h.toNat, s.cpu.l.toNat]

end Sys2Proof.Machine
end

