-- ==== Sys2Proof/Machine/Hooks.lean ====
section
/-! DEFINITION. Debug hooks, the code/data log and the breakpoint set (60_exceptions.md R236 to R242), and what the host may do from
inside a hook (R236, 20_memory.md R71, R72). The host's answers are inputs, held in `host.replies` (notes/assumptions/13.md). -/

namespace Sys2Proof.Machine

/-- Record what the host sees. -/
def State.note (s : State) (e : HostEvent) : State := { s with host := { s.host with events := e :: s.host.events } }

/-- Set the state-wide refused mark (R25). -/
def State.refuse (s : State) : State := { s with host := { s.host with refusedMark := true } }

/-- The length in bytes of the store `getMemoryArea(i)` gives, none for an index outside 0..5 or no cartridge (R72, R50). -/
def State.areaLength (s : State) (i : Nat) : Option Nat :=
  if s.loaded then
    match i with
    | 0 => some (match s.model with
        | .dmg => 0x2000
        | .cgb | .cgbDmg => 0x4000)
    | 1 => some (s.cart.info.romBanks * 0x4000)
    | 2 => some (match s.model with
        | .dmg => 0x2000
        | .cgb | .cgbDmg => 0x8000)
    | 3 => some (match s.cart.info.kind with
        | .mbc2 => 512
        | .noMbc | .mbc1 | .mbc3 | .mbc5 => s.cart.info.ramBanks * 0x2000)
    | 4 => some 160
    | 5 => some 127
    | _ => none
  else none

/-- The byte at an offset of area i below its length; none where no byte exists (R72). A read past the length is refused by the host call
(notes/assumptions/56.md). A cell of MBC2 RAM is shown as the byte that is stored (notes/assumptions/46.md). -/
def State.areaByte (s : State) (i off : Nat) : Option Byte :=
  match i with
  | 0 => some (s.ramByte .vram off)
  | 1 => s.rom.read off
  | 2 => some (s.ramByte .wram off)
  | 3 => some (s.ramByte .cartRam off)
  | 4 => some (s.ramByte .oam off)
  | 5 => some (s.ramByte .hram off)
  | _ => none

/-- A write through the pointer `getMemoryArea(i)` gives: it changes the store with no side effect and no hook (R72). A write outside
the area is refused (notes/assumptions/56.md). A cell of MBC2 RAM keeps all 8 bits (notes/assumptions/46.md). -/
def State.pokeArea (s : State) (i off : Nat) (v : Byte) : State :=
  match s.areaLength i with
  | none => s.refuse
  | some n =>
    if off < n then
      match i with
      | 0 => s.setRamByte .vram off v
      | 1 => { s with rom := s.rom.write off v }
      | 2 => s.setRamByte .wram off v
      | 3 => s.setRamByte .cartRam off v
      | 4 => s.setRamByte .oam off v
      | _ => s.setRamByte .hram off v
    else s.refuse

/-- `setLayers(mask)`: bits above 2 are ignored (R233). -/
def State.setLayers (s : State) (mask : Nat) : State :=
  { s with host := { s.host with layerMask := BitVec.ofNat 3 mask } }

/-- Set an entry of an association list. -/
def setEntry (l : List (Nat × BitVec 32)) (k : Nat) (v : BitVec 32) : List (Nat × BitVec 32) :=
  match l with
  | [] => [(k, v)]
  | (j, w) :: l => if j = k then (k, v) :: l else (j, w) :: setEntry l k v

/-- The value of an association list at a key, if any. -/
def entryAt (l : List (Nat × BitVec 32)) (k : Nat) : Option (BitVec 32) := (l.find? fun e => e.1 == k).map (·.2)

/-- The output colour of a shade of a DMG palette: the one set, or P_DEFAULT_DMG_PALETTE (R234, R245). -/
def Palettes.dmgColour (q : Palettes) (p i : Nat) : BitVec 32 := (entryAt q.dmg (p * 4 + i)).getD (Config.defaultDmgPalette p i)

/-- The output colour of a CGB colour word: that of the table set, or P_DEFAULT_CGB_LUT (R234, R245). -/
def Palettes.cgbColour (q : Palettes) (w : BitVec 15) : BitVec 32 :=
  match q.cgb with
  | some lut => lut.getD w.toNat 0
  | none => Config.defaultCgbLut w.toNat

/-- Replace the output palettes. -/
def State.setPalettes (s : State) (q : Palettes) : State :=
  { s with host := { s.host with palettes := q } }

/-- `setDmgPaletteColor(p, i, rgb32)` with p below 3 and i below 4 (R234). -/
def State.setDmgColor (s : State) (p i : Nat) (rgb : BitVec 32) : State :=
  s.setPalettes { s.host.palettes with dmg := setEntry s.host.palettes.dmg (p * 4 + i) rgb }

/-- `setCgbPalette(lut)` with 32,768 entries (R234). -/
def State.setCgbLut (s : State) (lut : List (BitVec 32)) : State := s.setPalettes { s.host.palettes with cgb := some lut }

/-- One call of the host from inside a hook (R236); any call R236 does not list, and an index out of range, sets the refused mark. -/
def State.hookAction (s : State) : HookAction → State
  | .externalRead a => (s.resolveRead a).2.note (.byte (s.resolveRead a).1)
  | .externalWrite a v => s.resolveWrite a v
  | .getRegs => s.note (.regs s.registerSlots)
  | .getMemoryArea i => s.note (.area (s.areaLength i))
  | .pokeArea i off v => s.pokeArea i off v
  | .setLayers m => s.setLayers m
  | .setDmgPaletteColor p i rgb => if p < 3 ∧ i < 4 then s.setDmgColor p i rgb else s.refuse
  | .setCgbPalette lut => if lut.length = 32768 then s.setCgbLut lut else s.refuse
  | .linkStatus which => s.nextDraw.note (.status (Config.linkStatus s.draws which))
  | .otherCall => s.refuse

/-- The calls of one reply, in order. -/
def State.hookActions (s : State) : List HookAction → State
  | [] => s
  | a :: as => (s.hookAction a).hookActions as

/-- Replace the replies still to come. -/
def State.setReplies (s : State) (rs : List HookReply) : State := { s with host := { s.host with replies := rs } }

/-- Call a registered hook: the call is recorded, and the host's next reply, if there is one, is carried out. The mask is the input
poll's result; with no reply left it is the draw P_INPUT (R225). -/
def State.callHook (s : State) (c : HookCall) : Byte × State :=
  match s.host.replies with
  | [] => (Config.inputMask s.draws, (s.note (.call c)).nextDraw)
  | r :: rs => (r.mask, ((s.note (.call c)).setReplies rs).hookActions r.actions)

/-- Call a hook if its slot holds a callback (R236). -/
def State.fire (s : State) (registered : Bool) (c : HookCall) : State :=
  if registered then (s.callHook c).2 else s

/-- The hook's cycle offset: CPU ticks since the start of the current `runFor` call (R237). -/
def State.hookOffset (s : State) : Nat := s.cycles - s.host.callStartTick

/-- `ramBank` (R74, R238, R241), a draw where the rules give none (notes/assumptions/27.md). -/
def State.ramBank (s : State) : Nat := s.cart.ramBank.getD (Config.openRamBank s.draws)

/-- The address and kind the code/data log passes (R238). -/
def State.codeDataAddress (s : State) (a : Addr) : Nat × CdlKind :=
  if s.inBootRom a then (a.toNat, .none)
  else
    match s.region a with
    | .low a => (s.cart.romOffset a, .rom)
    | .cart a =>
      match s.cart.window a with
      | .ram _ | .nibble _ => (s.ramBank * 0x2000 + (a.toNat - 0xA000), .cartRam)
      | .rtc _ | .openBus => (a.toNat, .none)
    | .wram off => (off, .wram)
    | .hram off => (off, .hram)
    | .vram _ | .oam _ | .unusable | .io _ | .ie => (a.toNat, .none)

/-- The value of a flag of the code/data log (R238). -/
def CdlFlag.bits : CdlFlag → Byte
  | .execOpcode => 0x01
  | .execOperand => 0x02
  | .data => 0x04

/-- The code/data-log callback of an access, with one flag (R238). -/
def State.codeData (s : State) (a : Addr) (flag : CdlFlag) : State :=
  s.fire s.host.hooks.codeData (.codeData (s.codeDataAddress a).1 (s.codeDataAddress a).2 flag.bits)

/-- `bank(a)`, the active bank of an address (R241). -/
def State.activeBank (s : State) (a : Addr) : Nat :=
  let n := a.toNat
  if n < 0x4000 then s.cart.rom0Bank
  else if n < 0x8000 then s.cart.romxBank
  else if 0xA000 ≤ n ∧ n < 0xC000 then s.ramBank
  else if (0xD000 ≤ n ∧ n < 0xE000) ∨ (0xF000 ≤ n ∧ n < 0xFE00) then s.wramBank
  else 0

/-- Whether an entry of the breakpoint set matches a fetch at `a` (R241). -/
def Breakpoint.matches (b : Breakpoint) (s : State) (a : Addr) : Bool :=
  b.addr == a && (match b.bank with
    | none => true
    | some k => k == s.activeBank a)

/-- The breakpoint check of an opcode fetch (R241). -/
def State.checkBreakpoint (s : State) (a : Addr) : State :=
  if s.host.breakpoints.any (·.matches s a) then
    { s with host := { s.host with hitAddress := some a, stopRequested := true } }
  else s

end Sys2Proof.Machine
end

