-- ==== Sys2Proof/Machine/Devices.lean ====
section
/-! DEFINITION. The joypad poll (60_exceptions.md R224, R225), the CPU's accesses to the bus (20_memory.md R66, R67, R69), the DMA
units (R228, R229), the PPU's frame position (R231), and the device phase of an M-cycle (70_reset_and_hazards.md R259). -/

namespace Sys2Proof.Machine

/-- The low nibble of P1 for an input mask (R224, R225): a line is 0 when a selected button of it is pressed. -/
def joypadLines (select : BitVec 2) (mask : Byte) : BitVec 4 :=
  ~~~((if select.getLsbD 1 then 0 else field4 mask) ||| (if select.getLsbD 0 then 0 else highNibble mask))

/-- Sample the input lines for a mask: a selected line newly pressed requests the joypad interrupt (R225). -/
def State.sampleLines (s : State) (mask : Byte) : State :=
  let low := joypadLines s.joypad.select mask
  { s with
    joypad := { s.joypad with lastLines := low }
    irq := { s.irq with joypad := s.irq.joypad || (s.joypad.lastLines &&& ~~~low) != 0 } }

/-- One input poll (R225): with no input-poll hook registered the mask is 0. -/
def State.pollInput (s : State) : State :=
  if s.host.hooks.inputPoll then (s.callHook .inputPoll).2.sampleLines (s.callHook .inputPoll).1 else s.sampleLines 0

/-- Whether an address is P1/JOYP. -/
def isP1 (a : Addr) : Bool := a == 0xFF00

/-- P_DMA_CONFLICT_READ, what a CPU read blocked by OAM DMA gives (R66, R69): 0xFF in OAM, as R228 says, and a draw at every other blocked
address (notes/assumptions/6.md). -/
def State.conflictValue (s : State) (a : Addr) : Byte :=
  if 0xFE00 ≤ a.toNat ∧ a.toNat < 0xFEA0 then 0xFF else Config.dmaConflict s.draws a

/-- `BusRead(a, kind)` for the CPU's kinds opcode, operand and data (R66): P1 polls the input first (R224). -/
def State.cpuRead (s : State) (a : Addr) : Byte × State :=
  if s.dmaBlocks a then (s.conflictValue a, s.nextDraw)
  else if isP1 a then s.pollInput.resolveRead a
  else s.resolveRead a

/-- `BusWrite(a, v)` by the CPU (R67): a write to P1 polls the input with the new select lines (R225). -/
def State.cpuWrite (s : State) (a : Addr) (v : Byte) : State :=
  if isP1 a then (s.resolveWrite a v).pollInput else s.resolveWrite a v

/-- The address OAM DMA reads a source address at: 0xE000-0xFFFF read as WRAM (R228). -/
def oamDmaSource (a : Addr) : Addr := if a.toNat < 0xE000 then a else a - 0x2000

/-- Move one byte of OAM DMA (R228). -/
def State.oamDmaMove (s : State) : State :=
  let r := s.resolveRead (oamDmaSource (word s.oamDma.reg (BitVec.ofNat 8 s.oamDma.index)))
  { r.2 with
    oam := r.2.oam.write s.oamDma.index r.1
    oamDma := { s.oamDma with index := s.oamDma.index + 1, active := decide (s.oamDma.index + 1 < 160) } }

/-- Phase 3b: OAM DMA begins in the M-cycle after its write and moves a byte per M-cycle (R228, R259). After a write outside an M-cycle of
its own this is the phase of the next one, which stands for the write's (notes/assumptions/45.md). -/
def State.oamDmaPhase (s : State) : State :=
  if s.oamDma.starting then { s with oamDma := { s.oamDma with starting := false, active := true } }
  else if s.oamDma.active then s.oamDmaMove
  else s

/-- The byte VRAM DMA reads at a source address (R229). -/
def State.hdmaRead (s : State) (a : Addr) : Byte × State :=
  if (0x8000 ≤ a.toNat ∧ a.toNat < 0xA000) ∨ 0xE000 ≤ a.toNat then (0xFF, s) else s.resolveRead a

/-- Move one byte of VRAM DMA: source and destination advance (R229). -/
def State.hdmaByte (s : State) : State :=
  let r := s.hdmaRead s.hdma.src
  { r.2 with
    vram := r.2.vram.write (s.vramOffset (s.hdma.dst.toNat % 0x2000)) r.1
    hdma := { s.hdma with src := s.hdma.src + 1, dst := s.hdma.dst + 1 } }

/-- `n` bytes of VRAM DMA. -/
def State.hdmaBytes (s : State) : Nat → State
  | 0 => s
  | n + 1 => (s.hdmaBytes n).hdmaByte

/-- M-cycles of stall per VRAM DMA block: 8, or 16 in double speed (R229). -/
def State.hdmaStall (s : State) : BitVec 16 := if s.doubleSpeed then 16 else 8

/-- `stallCount <- stallCount + n` (R207). -/
def State.addStall (s : State) (n : BitVec 16) : State := { s with cpu := { s.cpu with stallCount := s.cpu.stallCount + n } }

/-- One block of VRAM DMA: 16 bytes, and the stall (R229, R207). -/
def State.hdmaBlock (s : State) : State := (s.hdmaBytes 16).addStall s.hdmaStall

/-- `n` blocks. -/
def State.hdmaBlocks (s : State) : Nat → State
  | 0 => s
  | n + 1 => (s.hdmaBlocks n).hdmaBlock

/-- A general-purpose transfer moves at the end of the M-cycle of its write (R229), or of the next M-cycle after a write outside one
(notes/assumptions/45.md). -/
def State.hdmaGeneral (s : State) : State :=
  { s with hdma := { s.hdma with pending := 0 } }.hdmaBlocks s.hdma.pending

/-- One block of the HBlank transfer (R229). -/
def State.hdmaHBlank (s : State) : State :=
  { s with hdma := { s.hdma with active := decide (1 < s.hdma.blocks), blocks := s.hdma.blocks - 1 } }.hdmaBlock

/-- A frame event (R231, R260, R261). -/
def State.frameEvent (s : State) (f : Frame) : State :=
  { s with host := { s.host with
      lastFrame := f
      frameOffset := if s.host.frameOffset.isNone then some s.host.produced else s.host.frameOffset } }

/-- The palettes and the layer mask in force (R233, R234). -/
def State.look (s : State) : Look := ⟨s.host.palettes, s.host.layerMask⟩

/-- The frame just drawn (R231), with the looks it was drawn with (R233, R234). -/
def State.drawnFrame (s : State) : Frame := .drawn s.draws s.model s.look s.host.picture

/-- The looks of the frame after a base tick of it (R231, R233, R234): a frame starts at position 0, and a look is listed from the first
base tick of lines 0-143, after the scanline hook of its line, that finds it in force (notes/assumptions/51.md). -/
def State.drawTick (s : State) : Picture :=
  if s.lcdOn && decide (s.ppu.lineTick < Config.vblankTick) then
    if s.ppu.lineTick = 0 then [(0, s.look)]
    else if s.host.picture.head?.map (·.2) = some s.look then s.host.picture
    else (s.ppu.lineTick, s.look) :: s.host.picture
  else s.host.picture

/-- The VBlank request (R210, R231). -/
def State.requestVblank (s : State) : State := { s with irq := { s.irq with vblank := true } }

/-- The start of line L with the LCD enabled (R231): the scanline hook; at line 144 the VBlank request and the frame event, also where
the hook turned the LCD off (notes/assumptions/49.md). -/
def State.startLine (s : State) (line : Nat) : State :=
  let t := s.fire (s.host.hooks.scanline == some line) .scanline
  if line = 144 then t.requestVblank.frameEvent t.drawnFrame else t

/-- What happens at the frame position (R231, R261): the start of a line, or the frame event with the LCD off. -/
def State.linePhase (s : State) : State :=
  if s.lcdOn then
    if s.ppu.lineTick % Config.lineTicks = 0 then s.startLine (s.ppu.lineTick / Config.lineTicks) else s
  else if s.ppu.lineTick = Config.vblankTick then s.frameEvent (.lcdOff s.model)
  else s

/-- The STAT request of P_PLATFORM at this base tick (R231): a draw. -/
def State.statPhase (s : State) : State :=
  { s with irq := { s.irq with stat := s.irq.stat || Config.statRequest s.draws } }

/-- A block of the HBlank transfer at a start of PPU mode 0 on lines 0-143 with the LCD enabled (R229): the start is a draw. -/
def State.hblankPhase (s : State) : State :=
  if s.hdma.active && s.lcdOn && decide (s.ppu.lineTick < Config.vblankTick) && Config.hblankStart s.draws then s.hdmaHBlank
  else s

/-- The PPU draws on with the palettes and the mask in force, and the frame position advances (R231). -/
def State.advanceLine (s : State) : State :=
  { s with
    ppu := { s.ppu with lineTick := (s.ppu.lineTick + 1) % Config.frameTicks }
    host := { s.host with picture := s.drawTick } }

/-- The RTC at a base tick, on a cartridge that has one: cycle mode counts, wall-clock mode takes P_WALLCLOCK (R89, R90). -/
def State.rtcPhase (s : State) : State :=
  if s.cart.info.hasRtc then
    { s with rtc :=
        if s.host.rtcCycleMode then s.rtc.tick (Config.secondTicks + s.host.rtcDivisorOffset)
        else s.rtc.seconds (Config.wallSeconds s.draws) }
  else s

/-- A sample after each base tick whose count since reset is odd (R258). -/
def State.samplePhase (s : State) : State :=
  if s.baseTicks % 2 = 1 then
    { s with host := { s.host with samples := Config.apuSample s.draws :: s.host.samples, produced := s.host.produced + 1 } }
  else s

/-- The counts of a base tick. -/
def State.countTick (s : State) : State := { s with baseTicks := s.baseTicks + 1, draws := s.draws + 1 }

/-- One base tick, phase 3d (R259). -/
def State.baseTick (s : State) : State :=
  s.linePhase.statPhase.hblankPhase.advanceLine.rtcPhase.samplePhase.countTick

/-- The base ticks of an M-cycle: 4, or 2 in double speed (R206, R257). -/
def State.basePhase (s : State) : State :=
  if s.doubleSpeed then s.baseTick.baseTick else s.baseTick.baseTick.baseTick.baseTick

/-- Phase 3a: the timer (R259, R223). -/
def State.timerPhase (s : State) (counting : Bool) : State :=
  { s with
    timer := s.timer.endCycle counting
    irq := { s.irq with timer := s.irq.timer || s.timer.requests } }

/-- The serial unit advances, with what the peer does; the end of a transfer requests the serial interrupt (R226, R227). -/
def State.advanceSerial (s : State) : State :=
  { s with
    serial := s.serial.endCycle s.host.peer
    irq := { s.irq with serial := s.irq.serial || s.serial.completes s.host.peer }
    host := { s.host with peer := s.host.peer.endCycle s.serial } }

/-- Phase 3c: the serial unit; the end of a transfer calls the link-byte hook (R226, R259). -/
def State.serialPhase (s : State) : State :=
  s.advanceSerial.fire (s.serial.completes s.host.peer && s.host.hooks.linkByte) .linkByte

/-- Phase 4: the cycle counter (R41, R259). -/
def State.countCycle (s : State) : State := { s with cycles := s.cycles + 4 }

/-- Phases 3 and 4 of an M-cycle (R259), then a general-purpose VRAM DMA of this M-cycle (R229). `counting` is false in stop mode. -/
def State.deviceCycle (s : State) (counting : Bool) : State :=
  (s.timerPhase counting).oamDmaPhase.serialPhase.basePhase.countCycle.hdmaGeneral

end Sys2Proof.Machine
end

