-- ==== Sys2Proof/Machine/Flags.lean ====
section
/-! DEFINITION. The flags (10_state.md R34, R35), the conditions (30_encoding.md R102) and every flag formula: accumulator operations
(42_alu8.md R151 to R164), 16-bit additions (43_alu16.md R165, R168; 41_load16.md R148), rotates, shifts and BIT (44_rotate_shift_bit.md).
Sums are formed on unbounded integers and narrowed at the end (00_scope.md R18). -/

namespace Sys2Proof.Machine

/-- A flag byte `{Z, N, H, C, 0000}` (R34). -/
def mkFlags (z n h c : Bool) : Byte := bitAt 7 z ||| bitAt 6 n ||| bitAt 5 h ||| bitAt 4 c

/-- Z, bit 7 of F. -/
def State.flagZ (s : State) : Bool := bit s.flags 7

/-- N, bit 6 of F. -/
def State.flagN (s : State) : Bool := bit s.flags 6

/-- H, bit 5 of F. -/
def State.flagH (s : State) : Bool := bit s.flags 5

/-- C, bit 4 of F. -/
def State.flagC (s : State) : Bool := bit s.flags 4

/-- Write the four flags. -/
def State.putFlags (s : State) (z n h c : Bool) : State := s.setFlags (mkFlags z n h c)

/-- `cond(cc)` (R102). -/
def State.cond (s : State) : Cond → Bool
  | .nz => !s.flagZ
  | .z => s.flagZ
  | .nc => !s.flagC
  | .c => s.flagC

/-- The low nibble of a byte as a number. -/
def low4 (v : Byte) : Nat := v.toNat % 16

/-- An 8-bit result and the flags that go with it. -/
structure Alu where
  value : Byte
  z : Bool
  n : Bool
  h : Bool
  c : Bool
  deriving DecidableEq, Repr

/-- `a + v + c` (R151, R152). -/
def addCarry (a v : Byte) (c : Bool) : Alu :=
  let res := a.toNat + v.toNat + c.toNat
  let r : Byte := BitVec.ofNat 8 res
  ⟨r, r == 0, false, decide (low4 a + low4 v + c.toNat > 0xF), decide (res > 0xFF)⟩

/-- `a - v - c` (R153, R154, R158). -/
def subCarry (a v : Byte) (c : Bool) : Alu :=
  let r : Byte := BitVec.ofInt 8 ((a.toNat : Int) - v.toNat - c.toNat)
  ⟨r, r == 0, true, decide (low4 a < low4 v + c.toNat), decide (a.toNat < v.toNat + c.toNat)⟩

/-- The logic operations: Z from the result, N and C 0, H as given (R155 to R157). -/
def logic (r : Byte) (h : Bool) : Alu := ⟨r, r == 0, false, h, false⟩

/-- What an accumulator operation computes from A, the operand and the carry flag (R151 to R158); CP gives the flags of SUB and keeps A. -/
def aluResult (op : AluOp) (a v : Byte) (c : Bool) : Alu :=
  match op with
  | .add => addCarry a v false
  | .adc => addCarry a v c
  | .sub => subCarry a v false
  | .sbc => subCarry a v c
  | .and => logic (a &&& v) true
  | .xor => logic (a ^^^ v) false
  | .or => logic (a ||| v) false
  | .cp => { subCarry a v false with value := a }

/-- `INC` of an 8-bit operand; `c` is the carry flag, which stays (R159). -/
def incResult (v : Byte) (c : Bool) : Alu := ⟨v + 1, v + 1 == 0, false, low4 v == 0xF, c⟩

/-- `DEC` of an 8-bit operand; `c` is the carry flag, which stays (R160). -/
def decResult (v : Byte) (c : Bool) : Alu := ⟨v - 1, v - 1 == 0, true, low4 v == 0, c⟩

/-- Whether DAA adjusts by 0x60 (R161). -/
def daaHigh (a : Byte) (n c : Bool) : Bool := c || (!n && decide (a.toNat > 0x99))

/-- Whether DAA adjusts by 0x06 (R161). -/
def daaLow (a : Byte) (n h : Bool) : Bool := h || (!n && decide (low4 a > 0x09))

/-- The adjustment of DAA (R161). -/
def daaAdjust (a : Byte) (n h c : Bool) : Byte :=
  (if daaLow a n h then 0x06 else 0) ||| (if daaHigh a n c then 0x60 else 0)

/-- `DAA` (R161). -/
def daaResult (a : Byte) (n h c : Bool) : Alu :=
  let r := if n then a - daaAdjust a n h c else a + daaAdjust a n h c
  ⟨r, r == 0, n, false, daaHigh a n c⟩

/-- What a CB rotate or shift gives, with the bit it moves into C (R174 to R181). -/
def shiftValue (op : ShiftOp) (v : Byte) (c : Bool) : Byte × Bool :=
  match op with
  | .rlc => ((v <<< 1) ||| (v >>> 7), bit v 7)
  | .rrc => ((v >>> 1) ||| (v <<< 7), bit v 0)
  | .rl => ((v <<< 1) ||| bitAt 0 c, bit v 7)
  | .rr => ((v >>> 1) ||| bitAt 7 c, bit v 0)
  | .sla => (v <<< 1, bit v 7)
  | .sra => ((v >>> 1) ||| (v &&& 0x80), bit v 0)
  | .swap => ((v <<< 4) ||| (v >>> 4), false)
  | .srl => (v >>> 1, bit v 0)

/-- A CB rotate or shift with its flags (R174 to R181). -/
def shiftResult (op : ShiftOp) (v : Byte) (c : Bool) : Alu :=
  ⟨(shiftValue op v c).1, (shiftValue op v c).1 == 0, false, false, (shiftValue op v c).2⟩

/-- An accumulator rotate: the CB result with Z cleared (R169 to R172). -/
def rotateAResult (op : ShiftOp) (a : Byte) (c : Bool) : Alu := { shiftResult op a c with z := false }

/-- `BIT b` of an operand: only flags; `c` is the carry flag, which stays (R182). -/
def bitResult (b : Nat) (v : Byte) (c : Bool) : Alu := ⟨v, !bit v b, false, true, c⟩

/-- `RES b` (R183). -/
def resetBit (b : Nat) (v : Byte) : Byte := v &&& ~~~(1#8 <<< b)

/-- `SET b` (R184). -/
def setBit (b : Nat) (v : Byte) : Byte := v ||| (1#8 <<< b)

/-- Write the flags of a result. -/
def State.flagsOf (s : State) (r : Alu) : State := s.putFlags r.z r.n r.h r.c

/-- H of `ADD HL,rr`: the carry out of bit 11 (R165). -/
def addHLHalf (h v : Addr) : Bool := decide (h.toNat % 0x1000 + v.toNat % 0x1000 > 0x0FFF)

/-- C of `ADD HL,rr`: the carry out of bit 15 (R165). -/
def addHLCarry (h v : Addr) : Bool := decide (h.toNat + v.toNat > 0xFFFF)

/-- H of `ADD SP,e` and `LD HL,SP+e`: from the unsigned add of the low bytes (R168, R148). -/
def addSpHalf (sp : Addr) (e : Byte) : Bool := decide (sp.toNat % 16 + low4 e > 0x0F)

/-- C of `ADD SP,e` and `LD HL,SP+e` (R168, R148). -/
def addSpCarry (sp : Addr) (e : Byte) : Bool := decide (sp.toNat % 256 + e.toNat > 0xFF)

end Sys2Proof.Machine
end

