-- ==== Sys2Proof/Machine/Ops.lean ====
section
/-! DEFINITION. The CPU primitives, each one M-cycle (00_scope.md R20), the stack, interrupt dispatch and the return from an interrupt
(60_exceptions.md R213 to R215, 45_control.md R195), and the low-power cycles (46_system.md R203 to R208). -/

namespace Sys2Proof.Machine

/-- `Internal()`: an M-cycle without a bus access (R20). -/
def State.internal (s : State) : State := s.deviceCycle true

/-- The host phase of `FetchOp()` before its breakpoint check: the exec hook and the code/data log (R237, R238, R259). -/
def State.fetchHooks (s : State) : State := (s.fire s.host.hooks.exec (.exec s.cpu.pc s.hookOffset)).codeData s.cpu.pc .execOpcode

/-- The host phase of `FetchOp()`, with the breakpoint check (R241, R259). -/
def State.opcodeHooks (s : State) : State := s.fetchHooks.checkBreakpoint s.cpu.pc

/-- PC after `FetchOp()`: incremented, but not by the halt-bug fetch, which clears haltBug (R20, R33, R202). -/
def State.nextPc (s : State) : State :=
  if s.cpu.haltBug then { s with cpu := { s.cpu with haltBug := false } } else s.setPc (s.cpu.pc + 1)

/-- `FetchOp()` (R20): PC is stepped before the device phase of the M-cycle (notes/assumptions/54.md). -/
def State.fetchOp (s : State) : Byte × State :=
  let r := s.opcodeHooks.cpuRead s.cpu.pc
  (r.1, r.2.nextPc.deviceCycle true)

/-- `FetchImm()` (R20): no hook, an exec-operand entry of the code/data log, PC incremented before the device phase of the M-cycle
(R237, R238; notes/assumptions/54.md). -/
def State.fetchImm (s : State) : Byte × State :=
  let r := (s.codeData s.cpu.pc .execOperand).cpuRead s.cpu.pc
  (r.1, (r.2.setPc (s.cpu.pc + 1)).deviceCycle true)

/-- `n` operand fetches. -/
def State.fetchImms (s : State) : Nat → List Byte × State
  | 0 => ([], s)
  | n + 1 =>
    let r := s.fetchImm
    let q := r.2.fetchImms n
    (r.1 :: q.1, q.2)

/-- `MemRead(a, 1)` (R20). -/
def State.memRead (s : State) (a : Addr) : Byte × State :=
  let r := ((s.fire s.host.hooks.read (.read a s.hookOffset)).codeData a .data).cpuRead a
  (r.1, r.2.deviceCycle true)

/-- `MemWrite(a, 1, v)` (R20). -/
def State.memWrite (s : State) (a : Addr) (v : Byte) : State :=
  (((s.fire s.host.hooks.write (.write a s.hookOffset)).codeData a .data).cpuWrite a v).deviceCycle true

/-- One byte onto the stack: `SP <- SP - 1`, then a write at SP (R32, R145). -/
def State.pushByte (s : State) (v : Byte) : State := (s.setSp (s.cpu.sp - 1)).memWrite (s.cpu.sp - 1) v

/-- A 16-bit value onto the stack, high byte first (R145). -/
def State.pushWord (s : State) (v : Addr) : State := (s.pushByte (hiByte v)).pushByte (loByte v)

/-- One byte off the stack: a read at SP, then `SP <- SP + 1` (R32, R146). -/
def State.popByte (s : State) : Byte × State :=
  let r := s.memRead s.cpu.sp
  (r.1, r.2.setSp (s.cpu.sp + 1))

/-- A 16-bit value off the stack, low byte first (R146). -/
def State.popWord (s : State) : Addr × State :=
  let lo := s.popByte
  let hi := lo.2.popByte
  (word hi.1 lo.1, hi.2)

/-- `Internal(); pc <- target` (R186, R193). -/
def State.jump (s : State) (target : Addr) : State := s.internal.setPc target

/-- The call sequence: `Internal()`, push PC, `pc <- target` (R191, R196). -/
def State.call (s : State) (target : Addr) : State := (s.internal.pushWord s.cpu.pc).setPc target

/-- The return sequence: pop, `Internal()`, `pc <- popped` (R193). -/
def State.ret (s : State) : State := s.popWord.2.jump s.popWord.1

/-- `IE & IF & 0x1F` as five requests, bit 0 first (R38, R39). -/
def State.pendingBits (s : State) : List Bool :=
  [bit s.ie 0 && s.irq.vblank, bit s.ie 1 && s.irq.stat, bit s.ie 2 && s.irq.timer, bit s.ie 3 && s.irq.serial,
   bit s.ie 4 && s.irq.joypad]

/-- `(IE & IF & 0x1F) != 0` (R119, R201). -/
def State.pending (s : State) : Bool := s.pendingBits.any id

/-- The lowest set bit (R212). -/
def lowestSet : List Bool → Option Nat
  | [] => none
  | true :: _ => some 0
  | false :: bs => (lowestSet bs).map (· + 1)

/-- `IF[k] <- 0` (R213). -/
def Requests.clear (q : Requests) : Nat → Requests
  | 0 => { q with vblank := false }
  | 1 => { q with stat := false }
  | 2 => { q with timer := false }
  | 3 => { q with serial := false }
  | 4 => { q with joypad := false }
  | _ => q

/-- The dispatch target for a winner: 0x0040 + 8k, or 0x0000 when nothing is left (R213, R214). -/
def dispatchTarget : Option Nat → Addr
  | some k => BitVec.ofNat 16 (0x40 + 8 * k)
  | none => 0

/-- Acknowledge the winner in IF, if there is one (R213). -/
def State.acknowledge (s : State) : Option Nat → State
  | some k => { s with irq := s.irq.clear k }
  | none => s

/-- The start of a dispatch: the latches, and two `Internal()` cycles (R213). -/
def State.dispatchEntry (s : State) : State :=
  { s with cpu := { s.cpu with ime := false, imePending := false, haltBug := false } }.internal.internal

/-- The return address a dispatch saves: PC, or PC - 1 under the halt bug (R202, R213). -/
def State.dispatchReturn (s : State) : Addr := if s.cpu.haltBug then s.cpu.pc - 1 else s.cpu.pc

/-- `Dispatch()`, interrupt entry (R213, R214): the winner is chosen after the high byte of the return address is pushed. -/
def State.dispatch (s : State) : State :=
  let t := s.dispatchEntry.pushByte (hiByte s.dispatchReturn)
  let winner := lowestSet t.pendingBits
  ((t.pushByte (loByte s.dispatchReturn)).acknowledge winner).jump (dispatchTarget winner)

/-- The return from an interrupt (R195, R215): PC is popped, IME becomes 1 with no delay; nothing else is restored. -/
def State.interruptReturn (s : State) : State :=
  let t := s.ret
  { t with cpu := { t.cpu with ime := true, imePending := false } }

/-- `n` `Internal()` cycles. -/
def State.internals (s : State) : Nat → State
  | 0 => s
  | n + 1 => s.internal.internals n

/-- `halted <- 0; HaltWake()` (R119, R203). -/
def State.haltWake (s : State) : State :=
  { s with cpu := { s.cpu with halted := false } }.internals Config.haltWakeMCycles

/-- A stall cycle (R207): an M-cycle in which the system counter stands still in stop mode (R204, R217, R259). -/
def State.stallCycle (s : State) : State :=
  let t := s.deviceCycle (!s.cpu.stopped)
  { t with cpu := { t.cpu with stallCount := t.cpu.stallCount - 1 } }

/-- `StopCycle()` (R204): one poll, an M-cycle in which the system counter stands still, and the end of stop mode when a selected line
is pressed (notes/assumptions/19.md). -/
def State.stopCycle (s : State) : State :=
  let p := s.pollInput
  let t := p.deviceCycle false
  { t with cpu := { t.cpu with stopped := t.cpu.stopped && p.joypad.lastLines == 0xF } }

/-- `SpeedSwitch()` (R205). -/
def State.speedSwitch (s : State) : State :=
  { s with
    doubleSpeed := !s.doubleSpeed
    speedArmed := false
    timer := s.timer.stopReset
    cpu := { s.cpu with stallCount := BitVec.ofNat 16 Config.speedSwitchMCycles } }

/-- Entry to stop mode (R204). -/
def State.stopMode (s : State) : State :=
  { s with timer := s.timer.stopReset, cpu := { s.cpu with stopped := true } }

/-- `Lockup()` (R208). -/
def State.lockUp (s : State) : State := { s with cpu := { s.cpu with lockedUp := true } }

/-- The start of an instruction step: `imeBefore <- IME`, the EI delay, the trace hook (R119, R37, R237). -/
def State.startInstr (s : State) : State :=
  let t := { s with cpu := { s.cpu with
    imeBefore := s.cpu.ime
    ime := s.cpu.ime || s.cpu.imePending
    imePending := false } }
  t.fire t.host.hooks.trace .trace

/-- The low register that `LD BC,nn`, `LD DE,nn` and `LD HL,nn` write as soon as the low byte is fetched (41_load16.md R142). -/
def lowRegister (op : Byte) : Option Reg8 :=
  if op = 0x01 then some .c else if op = 0x11 then some .e else if op = 0x21 then some .l else none

/-- What an instruction writes after the fetch of its first operand byte: a low register, or nothing (R142). -/
def State.lowFirst (s : State) (op lo : Byte) : State :=
  match lowRegister op with
  | some r => s.setReg r lo
  | none => s

/-- `n` operand fetches of an instruction with opcode `op`. -/
def State.fetchOperands (s : State) (op : Byte) : Nat → List Byte × State
  | 0 => ([], s)
  | n + 1 =>
    let r := s.fetchImm
    let q := (r.2.lowFirst op r.1).fetchImms n
    (r.1 :: q.1, q.2)

/-- The fetches of an instruction: the opcode, then as many operand bytes as it has (R113, R119). -/
def State.fetchInstr (s : State) : List Byte × State :=
  let r := s.fetchOp
  let q := r.2.fetchOperands r.1 (instrLength r.1 - 1)
  (r.1 :: q.1, q.2)

end Sys2Proof.Machine
end

