-- ==== Sys2Proof/Machine/Operands.lean ====
section
/-! DEFINITION. The operand forms: addressing modes (40_load8.md R122), the 8-bit operand r (30_encoding.md R99) and the bit number
(R105). -/

namespace Sys2Proof.Machine

/-- The address of `(n)` and `(C)`: 0xFF00 + n (R110, R122). -/
def highPage (n : Byte) : Addr := word 0xFF n

/-- The bit number of a code b (R105), which is also t/8 of RST (R106). -/
def index3 : Index3 → Nat
  | .i0 => 0
  | .i1 => 1
  | .i2 => 2
  | .i3 => 3
  | .i4 => 4
  | .i5 => 5
  | .i6 => 6
  | .i7 => 7

/-- The vector of `RST t` (R106). -/
def rstVector (t : Index3) : Addr := BitVec.ofNat 16 (8 * index3 t)

/-- Read an 8-bit operand: a register, or the byte at HL (R150, R173). -/
def State.readOperand (s : State) : Operand8 → Byte × State
  | .reg r => (s.reg r, s)
  | .atHL => s.memRead s.hl

/-- Write an 8-bit operand (R173). -/
def State.writeOperand (s : State) (o : Operand8) (v : Byte) : State :=
  match o with
  | .reg r => s.setReg r v
  | .atHL => s.memWrite s.hl v

/-- `HL <- v`. -/
def State.setHl (s : State) (v : Addr) : State := s.setPair .hl v

end Sys2Proof.Machine
end

