-- ==== Sys2Proof/Machine/Alu16.lean ====
section
/-! DEFINITION. The meanings of the 16-bit arithmetic (43_alu16.md R165 to R168). Each meaning starts after the instruction's own fetches (notes/assumptions/30.md). -/

namespace Sys2Proof.Machine

/-- `ADD HL,rr` (R165): F is written after the `Internal()` M-cycle (notes/assumptions/48.md). -/
def State.addHl (s : State) (p : Pair) : State :=
  (s.internal.setHl (s.hl + s.pair p)).putFlags s.flagZ false (addHLHalf s.hl (s.pair p)) (addHLCarry s.hl (s.pair p))

/-- `INC rr` (R166). -/
def State.incPair (s : State) (p : Pair) : State := s.internal.setPair p (s.pair p + 1)

/-- `DEC rr` (R167). -/
def State.decPair (s : State) (p : Pair) : State := s.internal.setPair p (s.pair p - 1)

/-- `ADD SP,e` (R168): F is written after both `Internal()` M-cycles (notes/assumptions/48.md). -/
def State.addSp (s : State) (e : Byte) : State :=
  (s.internal.internal.setSp (s.cpu.sp + sext16 e)).putFlags false false (addSpHalf s.cpu.sp e) (addSpCarry s.cpu.sp e)

/-- `INC BC`, 0x03 (R166). -/
def execIncBC (s : State) : Result := .next (s.incPair .bc)

/-- `ADD HL,BC`, 0x09 (R165). -/
def execAddHLBC (s : State) : Result := .next (s.addHl .bc)

/-- `DEC BC`, 0x0B (R167). -/
def execDecBC (s : State) : Result := .next (s.decPair .bc)

/-- `INC DE`, 0x13 (R166). -/
def execIncDE (s : State) : Result := .next (s.incPair .de)

/-- `ADD HL,DE`, 0x19 (R165). -/
def execAddHLDE (s : State) : Result := .next (s.addHl .de)

/-- `DEC DE`, 0x1B (R167). -/
def execDecDE (s : State) : Result := .next (s.decPair .de)

/-- `INC HL`, 0x23 (R166). -/
def execIncHL (s : State) : Result := .next (s.incPair .hl)

/-- `ADD HL,HL`, 0x29 (R165). -/
def execAddHLHL (s : State) : Result := .next (s.addHl .hl)

/-- `DEC HL`, 0x2B (R167). -/
def execDecHL (s : State) : Result := .next (s.decPair .hl)

/-- `INC SP`, 0x33 (R166). -/
def execIncSP (s : State) : Result := .next (s.incPair .sp)

/-- `ADD HL,SP`, 0x39 (R165). -/
def execAddHLSP (s : State) : Result := .next (s.addHl .sp)

/-- `DEC SP`, 0x3B (R167). -/
def execDecSP (s : State) : Result := .next (s.decPair .sp)

/-- `ADD SP,e`, 0xE8 (R168). -/
def execAddSPDisp (e : Byte) (s : State) : Result := .next (s.addSp e)

end Sys2Proof.Machine
end

