-- ==== Sys2Proof/Machine/Alu8.lean ====
section
/-! DEFINITION. The meanings of the 8-bit arithmetic and logic (42_alu8.md R149 to R164). Each meaning starts after the instruction's own fetches (notes/assumptions/30.md). -/

namespace Sys2Proof.Machine

/-- An accumulator operation on a value (R150 to R158). -/
def State.accumulate (s : State) (op : AluOp) (v : Byte) : State :=
  let r := aluResult op s.cpu.a v s.flagC
  (s.setReg .a r.value).flagsOf r

/-- An accumulator operation on a register or (HL) (R150). -/
def State.accumulateFrom (s : State) (op : AluOp) (o : Operand8) : State :=
  let r := s.readOperand o
  r.2.accumulate op r.1

/-- `INC r` and `INC (HL)` (R159): F is written after the M-cycle of the write (notes/assumptions/48.md). -/
def State.inc8 (s : State) (o : Operand8) : State :=
  let r := s.readOperand o
  (r.2.writeOperand o (incResult r.1 s.flagC).value).flagsOf (incResult r.1 s.flagC)

/-- `DEC r` and `DEC (HL)` (R160): F is written after the M-cycle of the write (notes/assumptions/48.md). -/
def State.dec8 (s : State) (o : Operand8) : State :=
  let r := s.readOperand o
  (r.2.writeOperand o (decResult r.1 s.flagC).value).flagsOf (decResult r.1 s.flagC)

/-- `DAA` (R161). -/
def State.decimalAdjust (s : State) : State :=
  let r := daaResult s.cpu.a s.flagN s.flagH s.flagC
  (s.setReg .a r.value).flagsOf r

/-- `CPL` (R162). -/
def State.complementA (s : State) : State := (s.setReg .a (~~~s.cpu.a)).putFlags s.flagZ true true s.flagC

/-- `SCF` (R163). -/
def State.setCarry (s : State) : State := s.putFlags s.flagZ false false true

/-- `CCF` (R164). -/
def State.complementCarry (s : State) : State := s.putFlags s.flagZ false false (!s.flagC)

/-- `INC B`, 0x04 (R159). -/
def execIncB (s : State) : Result := .next (s.inc8 (.reg .b))

/-- `DEC B`, 0x05 (R160). -/
def execDecB (s : State) : Result := .next (s.dec8 (.reg .b))

/-- `INC C`, 0x0C (R159). -/
def execIncC (s : State) : Result := .next (s.inc8 (.reg .c))

/-- `DEC C`, 0x0D (R160). -/
def execDecC (s : State) : Result := .next (s.dec8 (.reg .c))

/-- `INC D`, 0x14 (R159). -/
def execIncD (s : State) : Result := .next (s.inc8 (.reg .d))

/-- `DEC D`, 0x15 (R160). -/
def execDecD (s : State) : Result := .next (s.dec8 (.reg .d))

/-- `INC E`, 0x1C (R159). -/
def execIncE (s : State) : Result := .next (s.inc8 (.reg .e))

/-- `DEC E`, 0x1D (R160). -/
def execDecE (s : State) : Result := .next (s.dec8 (.reg .e))

/-- `INC H`, 0x24 (R159). -/
def execIncH (s : State) : Result := .next (s.inc8 (.reg .h))

/-- `DEC H`, 0x25 (R160). -/
def execDecH (s : State) : Result := .next (s.dec8 (.reg .h))

/-- `DAA`, 0x27 (R161). -/
def execDaa (s : State) : Result := .next s.decimalAdjust

/-- `INC L`, 0x2C (R159). -/
def execIncL (s : State) : Result := .next (s.inc8 (.reg .l))

/-- `DEC L`, 0x2D (R160). -/
def execDecL (s : State) : Result := .next (s.dec8 (.reg .l))

/-- `CPL`, 0x2F (R162). -/
def execCpl (s : State) : Result := .next s.complementA

/-- `INC (HL)`, 0x34 (R159). -/
def execIncAtHL (s : State) : Result := .next (s.inc8 .atHL)

/-- `DEC (HL)`, 0x35 (R160). -/
def execDecAtHL (s : State) : Result := .next (s.dec8 .atHL)

/-- `SCF`, 0x37 (R163). -/
def execScf (s : State) : Result := .next s.setCarry

/-- `INC A`, 0x3C (R159). -/
def execIncA (s : State) : Result := .next (s.inc8 (.reg .a))

/-- `DEC A`, 0x3D (R160). -/
def execDecA (s : State) : Result := .next (s.dec8 (.reg .a))

/-- `CCF`, 0x3F (R164). -/
def execCcf (s : State) : Result := .next s.complementCarry

/-- `ADD A,B`, 0x80 (R151). -/
def execAddAB (s : State) : Result := .next (s.accumulateFrom .add (.reg .b))

/-- `ADD A,C`, 0x81 (R151). -/
def execAddAC (s : State) : Result := .next (s.accumulateFrom .add (.reg .c))

/-- `ADD A,D`, 0x82 (R151). -/
def execAddAD (s : State) : Result := .next (s.accumulateFrom .add (.reg .d))

/-- `ADD A,E`, 0x83 (R151). -/
def execAddAE (s : State) : Result := .next (s.accumulateFrom .add (.reg .e))

/-- `ADD A,H`, 0x84 (R151). -/
def execAddAH (s : State) : Result := .next (s.accumulateFrom .add (.reg .h))

/-- `ADD A,L`, 0x85 (R151). -/
def execAddAL (s : State) : Result := .next (s.accumulateFrom .add (.reg .l))

/-- `ADD A,(HL)`, 0x86 (R151). -/
def execAddAAtHL (s : State) : Result := .next (s.accumulateFrom .add .atHL)

/-- `ADD A,A`, 0x87 (R151). -/
def execAddAA (s : State) : Result := .next (s.accumulateFrom .add (.reg .a))

/-- `ADC A,B`, 0x88 (R152). -/
def execAdcAB (s : State) : Result := .next (s.accumulateFrom .adc (.reg .b))

/-- `ADC A,C`, 0x89 (R152). -/
def execAdcAC (s : State) : Result := .next (s.accumulateFrom .adc (.reg .c))

/-- `ADC A,D`, 0x8A (R152). -/
def execAdcAD (s : State) : Result := .next (s.accumulateFrom .adc (.reg .d))

/-- `ADC A,E`, 0x8B (R152). -/
def execAdcAE (s : State) : Result := .next (s.accumulateFrom .adc (.reg .e))

/-- `ADC A,H`, 0x8C (R152). -/
def execAdcAH (s : State) : Result := .next (s.accumulateFrom .adc (.reg .h))

/-- `ADC A,L`, 0x8D (R152). -/
def execAdcAL (s : State) : Result := .next (s.accumulateFrom .adc (.reg .l))

/-- `ADC A,(HL)`, 0x8E (R152). -/
def execAdcAAtHL (s : State) : Result := .next (s.accumulateFrom .adc .atHL)

/-- `ADC A,A`, 0x8F (R152). -/
def execAdcAA (s : State) : Result := .next (s.accumulateFrom .adc (.reg .a))

/-- `SUB B`, 0x90 (R153). -/
def execSubB (s : State) : Result := .next (s.accumulateFrom .sub (.reg .b))

/-- `SUB C`, 0x91 (R153). -/
def execSubC (s : State) : Result := .next (s.accumulateFrom .sub (.reg .c))

/-- `SUB D`, 0x92 (R153). -/
def execSubD (s : State) : Result := .next (s.accumulateFrom .sub (.reg .d))

/-- `SUB E`, 0x93 (R153). -/
def execSubE (s : State) : Result := .next (s.accumulateFrom .sub (.reg .e))

/-- `SUB H`, 0x94 (R153). -/
def execSubH (s : State) : Result := .next (s.accumulateFrom .sub (.reg .h))

/-- `SUB L`, 0x95 (R153). -/
def execSubL (s : State) : Result := .next (s.accumulateFrom .sub (.reg .l))

/-- `SUB (HL)`, 0x96 (R153). -/
def execSubAtHL (s : State) : Result := .next (s.accumulateFrom .sub .atHL)

/-- `SUB A`, 0x97 (R153). -/
def execSubA (s : State) : Result := .next (s.accumulateFrom .sub (.reg .a))

/-- `SBC A,B`, 0x98 (R154). -/
def execSbcAB (s : State) : Result := .next (s.accumulateFrom .sbc (.reg .b))

/-- `SBC A,C`, 0x99 (R154). -/
def execSbcAC (s : State) : Result := .next (s.accumulateFrom .sbc (.reg .c))

/-- `SBC A,D`, 0x9A (R154). -/
def execSbcAD (s : State) : Result := .next (s.accumulateFrom .sbc (.reg .d))

/-- `SBC A,E`, 0x9B (R154). -/
def execSbcAE (s : State) : Result := .next (s.accumulateFrom .sbc (.reg .e))

/-- `SBC A,H`, 0x9C (R154). -/
def execSbcAH (s : State) : Result := .next (s.accumulateFrom .sbc (.reg .h))

/-- `SBC A,L`, 0x9D (R154). -/
def execSbcAL (s : State) : Result := .next (s.accumulateFrom .sbc (.reg .l))

/-- `SBC A,(HL)`, 0x9E (R154). -/
def execSbcAAtHL (s : State) : Result := .next (s.accumulateFrom .sbc .atHL)

/-- `SBC A,A`, 0x9F (R154). -/
def execSbcAA (s : State) : Result := .next (s.accumulateFrom .sbc (.reg .a))

/-- `AND B`, 0xA0 (R155). -/
def execAndB (s : State) : Result := .next (s.accumulateFrom .and (.reg .b))

/-- `AND C`, 0xA1 (R155). -/
def execAndC (s : State) : Result := .next (s.accumulateFrom .and (.reg .c))

/-- `AND D`, 0xA2 (R155). -/
def execAndD (s : State) : Result := .next (s.accumulateFrom .and (.reg .d))

/-- `AND E`, 0xA3 (R155). -/
def execAndE (s : State) : Result := .next (s.accumulateFrom .and (.reg .e))

/-- `AND H`, 0xA4 (R155). -/
def execAndH (s : State) : Result := .next (s.accumulateFrom .and (.reg .h))

/-- `AND L`, 0xA5 (R155). -/
def execAndL (s : State) : Result := .next (s.accumulateFrom .and (.reg .l))

/-- `AND (HL)`, 0xA6 (R155). -/
def execAndAtHL (s : State) : Result := .next (s.accumulateFrom .and .atHL)

/-- `AND A`, 0xA7 (R155). -/
def execAndA (s : State) : Result := .next (s.accumulateFrom .and (.reg .a))

/-- `XOR B`, 0xA8 (R156). -/
def execXorB (s : State) : Result := .next (s.accumulateFrom .xor (.reg .b))

/-- `XOR C`, 0xA9 (R156). -/
def execXorC (s : State) : Result := .next (s.accumulateFrom .xor (.reg .c))

/-- `XOR D`, 0xAA (R156). -/
def execXorD (s : State) : Result := .next (s.accumulateFrom .xor (.reg .d))

/-- `XOR E`, 0xAB (R156). -/
def execXorE (s : State) : Result := .next (s.accumulateFrom .xor (.reg .e))

/-- `XOR H`, 0xAC (R156). -/
def execXorH (s : State) : Result := .next (s.accumulateFrom .xor (.reg .h))

/-- `XOR L`, 0xAD (R156). -/
def execXorL (s : State) : Result := .next (s.accumulateFrom .xor (.reg .l))

/-- `XOR (HL)`, 0xAE (R156). -/
def execXorAtHL (s : State) : Result := .next (s.accumulateFrom .xor .atHL)

/-- `XOR A`, 0xAF (R156). -/
def execXorA (s : State) : Result := .next (s.accumulateFrom .xor (.reg .a))

/-- `OR B`, 0xB0 (R157). -/
def execOrB (s : State) : Result := .next (s.accumulateFrom .or (.reg .b))

/-- `OR C`, 0xB1 (R157). -/
def execOrC (s : State) : Result := .next (s.accumulateFrom .or (.reg .c))

/-- `OR D`, 0xB2 (R157). -/
def execOrD (s : State) : Result := .next (s.accumulateFrom .or (.reg .d))

/-- `OR E`, 0xB3 (R157). -/
def execOrE (s : State) : Result := .next (s.accumulateFrom .or (.reg .e))

/-- `OR H`, 0xB4 (R157). -/
def execOrH (s : State) : Result := .next (s.accumulateFrom .or (.reg .h))

/-- `OR L`, 0xB5 (R157). -/
def execOrL (s : State) : Result := .next (s.accumulateFrom .or (.reg .l))

/-- `OR (HL)`, 0xB6 (R157). -/
def execOrAtHL (s : State) : Result := .next (s.accumulateFrom .or .atHL)

/-- `OR A`, 0xB7 (R157). -/
def execOrA (s : State) : Result := .next (s.accumulateFrom .or (.reg .a))

/-- `CP B`, 0xB8 (R158). -/
def execCpB (s : State) : Result := .next (s.accumulateFrom .cp (.reg .b))

/-- `CP C`, 0xB9 (R158). -/
def execCpC (s : State) : Result := .next (s.accumulateFrom .cp (.reg .c))

/-- `CP D`, 0xBA (R158). -/
def execCpD (s : State) : Result := .next (s.accumulateFrom .cp (.reg .d))

/-- `CP E`, 0xBB (R158). -/
def execCpE (s : State) : Result := .next (s.accumulateFrom .cp (.reg .e))

/-- `CP H`, 0xBC (R158). -/
def execCpH (s : State) : Result := .next (s.accumulateFrom .cp (.reg .h))

/-- `CP L`, 0xBD (R158). -/
def execCpL (s : State) : Result := .next (s.accumulateFrom .cp (.reg .l))

/-- `CP (HL)`, 0xBE (R158). -/
def execCpAtHL (s : State) : Result := .next (s.accumulateFrom .cp .atHL)

/-- `CP A`, 0xBF (R158). -/
def execCpA (s : State) : Result := .next (s.accumulateFrom .cp (.reg .a))

/-- `ADD A,n`, 0xC6 (R151). -/
def execAddAImm (n : Byte) (s : State) : Result := .next (s.accumulate .add n)

/-- `ADC A,n`, 0xCE (R152). -/
def execAdcAImm (n : Byte) (s : State) : Result := .next (s.accumulate .adc n)

/-- `SUB n`, 0xD6 (R153). -/
def execSubImm (n : Byte) (s : State) : Result := .next (s.accumulate .sub n)

/-- `SBC A,n`, 0xDE (R154). -/
def execSbcAImm (n : Byte) (s : State) : Result := .next (s.accumulate .sbc n)

/-- `AND n`, 0xE6 (R155). -/
def execAndImm (n : Byte) (s : State) : Result := .next (s.accumulate .and n)

/-- `XOR n`, 0xEE (R156). -/
def execXorImm (n : Byte) (s : State) : Result := .next (s.accumulate .xor n)

/-- `OR n`, 0xF6 (R157). -/
def execOrImm (n : Byte) (s : State) : Result := .next (s.accumulate .or n)

/-- `CP n`, 0xFE (R158). -/
def execCpImm (n : Byte) (s : State) : Result := .next (s.accumulate .cp n)

end Sys2Proof.Machine
end

