-- ==== Sys2Proof/Machine/Control.lean ====
section
/-! DEFINITION. The meanings of the jumps, calls, returns and restarts (45_control.md R185 to R196). Each meaning starts after the instruction's own fetches (notes/assumptions/30.md). -/

namespace Sys2Proof.Machine

/-- The taken `JR`: relative to the next instruction (R189, R190). -/
def State.jumpBy (s : State) (e : Byte) : State := s.jump (s.cpu.pc + sext16 e)

/-- `RET cc`: the condition is evaluated after an `Internal()` (R194). -/
def State.retCond (s : State) (cc : Cond) : State := if s.internal.cond cc then s.internal.ret else s.internal

/-- `JR e`, 0x18 (R189). -/
def execJrDisp (e : Byte) (s : State) : Result := .next (s.jumpBy e)

/-- `JR NZ,e`, 0x20 (R190). -/
def execJrNZDisp (e : Byte) (s : State) : Result := .next (if s.cond .nz then s.jumpBy e else s)

/-- `JR Z,e`, 0x28 (R190). -/
def execJrZDisp (e : Byte) (s : State) : Result := .next (if s.cond .z then s.jumpBy e else s)

/-- `JR NC,e`, 0x30 (R190). -/
def execJrNCDisp (e : Byte) (s : State) : Result := .next (if s.cond .nc then s.jumpBy e else s)

/-- `JR C,e`, 0x38 (R190). -/
def execJrCDisp (e : Byte) (s : State) : Result := .next (if s.cond .c then s.jumpBy e else s)

/-- `RET NZ`, 0xC0 (R194). -/
def execRetNZ (s : State) : Result := .next (s.retCond .nz)

/-- `JP NZ,nn`, 0xC2 (R187). -/
def execJpNZImm16 (nn : Addr) (s : State) : Result := .next (if s.cond .nz then s.jump nn else s)

/-- `JP nn`, 0xC3 (R186). -/
def execJpImm16 (nn : Addr) (s : State) : Result := .next (s.jump nn)

/-- `CALL NZ,nn`, 0xC4 (R192). -/
def execCallNZImm16 (nn : Addr) (s : State) : Result := .next (if s.cond .nz then s.call nn else s)

/-- `RST 00H`, 0xC7 (R196). -/
def execRst00 (s : State) : Result := .next (s.call (rstVector .i0))

/-- `RET Z`, 0xC8 (R194). -/
def execRetZ (s : State) : Result := .next (s.retCond .z)

/-- `RET`, 0xC9 (R193). -/
def execRet (s : State) : Result := .next s.ret

/-- `JP Z,nn`, 0xCA (R187). -/
def execJpZImm16 (nn : Addr) (s : State) : Result := .next (if s.cond .z then s.jump nn else s)

/-- `CALL Z,nn`, 0xCC (R192). -/
def execCallZImm16 (nn : Addr) (s : State) : Result := .next (if s.cond .z then s.call nn else s)

/-- `CALL nn`, 0xCD (R191). -/
def execCallImm16 (nn : Addr) (s : State) : Result := .next (s.call nn)

/-- `RST 08H`, 0xCF (R196). -/
def execRst08 (s : State) : Result := .next (s.call (rstVector .i1))

/-- `RET NC`, 0xD0 (R194). -/
def execRetNC (s : State) : Result := .next (s.retCond .nc)

/-- `JP NC,nn`, 0xD2 (R187). -/
def execJpNCImm16 (nn : Addr) (s : State) : Result := .next (if s.cond .nc then s.jump nn else s)

/-- `CALL NC,nn`, 0xD4 (R192). -/
def execCallNCImm16 (nn : Addr) (s : State) : Result := .next (if s.cond .nc then s.call nn else s)

/-- `RST 10H`, 0xD7 (R196). -/
def execRst10 (s : State) : Result := .next (s.call (rstVector .i2))

/-- `RET C`, 0xD8 (R194). -/
def execRetC (s : State) : Result := .next (s.retCond .c)

/-- `RETI`, 0xD9 (R195). -/
def execReti (s : State) : Result := .next s.interruptReturn

/-- `JP C,nn`, 0xDA (R187). -/
def execJpCImm16 (nn : Addr) (s : State) : Result := .next (if s.cond .c then s.jump nn else s)

/-- `CALL C,nn`, 0xDC (R192). -/
def execCallCImm16 (nn : Addr) (s : State) : Result := .next (if s.cond .c then s.call nn else s)

/-- `RST 18H`, 0xDF (R196). -/
def execRst18 (s : State) : Result := .next (s.call (rstVector .i3))

/-- `RST 20H`, 0xE7 (R196). -/
def execRst20 (s : State) : Result := .next (s.call (rstVector .i4))

/-- `JP HL`, 0xE9 (R188). -/
def execJpHL (s : State) : Result := .next (s.setPc s.hl)

/-- `RST 28H`, 0xEF (R196). -/
def execRst28 (s : State) : Result := .next (s.call (rstVector .i5))

/-- `RST 30H`, 0xF7 (R196). -/
def execRst30 (s : State) : Result := .next (s.call (rstVector .i6))

/-- `RST 38H`, 0xFF (R196). -/
def execRst38 (s : State) : Result := .next (s.call (rstVector .i7))

end Sys2Proof.Machine
end

