-- ==== Sys2Proof/Machine/Load16.lean ====
section
/-! DEFINITION. The meanings of the 16-bit loads and the stack (41_load16.md R142 to R148). Each meaning starts after the instruction's own fetches (notes/assumptions/30.md). -/

namespace Sys2Proof.Machine

/-- `LD rr,nn` (R142). -/
def State.loadPair (s : State) (p : Pair) (nn : Addr) : State := s.setPair p nn

/-- `LD (nn),SP` (R143). -/
def State.storeSp (s : State) (nn : Addr) : State := (s.memWrite nn (loByte s.cpu.sp)).memWrite (nn + 1) (hiByte s.cpu.sp)

/-- `LD SP,HL` (R144). -/
def State.spFromHl (s : State) : State := s.internal.setSp s.hl

/-- `PUSH qq` (R145). -/
def State.pushPair (s : State) (q : StackPair) : State := s.internal.pushWord (s.stackPair q)

/-- `POP qq` (R146, R147). -/
def State.popPair (s : State) (q : StackPair) : State :=
  let r := s.popWord
  r.2.setStackPair q r.1

/-- `LD HL,SP+e` (R148): F is written after the `Internal()` M-cycle (notes/assumptions/48.md). -/
def State.hlFromSp (s : State) (e : Byte) : State :=
  (s.internal.setHl (s.cpu.sp + sext16 e)).putFlags false false (addSpHalf s.cpu.sp e) (addSpCarry s.cpu.sp e)

/-- `LD BC,nn`, 0x01 (R142). -/
def execLdBCImm16 (nn : Addr) (s : State) : Result := .next (s.loadPair .bc nn)

/-- `LD (nn),SP`, 0x08 (R143). -/
def execLdAtImm16SP (nn : Addr) (s : State) : Result := .next (s.storeSp nn)

/-- `LD DE,nn`, 0x11 (R142). -/
def execLdDEImm16 (nn : Addr) (s : State) : Result := .next (s.loadPair .de nn)

/-- `LD HL,nn`, 0x21 (R142). -/
def execLdHLImm16 (nn : Addr) (s : State) : Result := .next (s.loadPair .hl nn)

/-- `LD SP,nn`, 0x31 (R142). -/
def execLdSPImm16 (nn : Addr) (s : State) : Result := .next (s.loadPair .sp nn)

/-- `POP BC`, 0xC1 (R146). -/
def execPopBC (s : State) : Result := .next (s.popPair .bc)

/-- `PUSH BC`, 0xC5 (R145). -/
def execPushBC (s : State) : Result := .next (s.pushPair .bc)

/-- `POP DE`, 0xD1 (R146). -/
def execPopDE (s : State) : Result := .next (s.popPair .de)

/-- `PUSH DE`, 0xD5 (R145). -/
def execPushDE (s : State) : Result := .next (s.pushPair .de)

/-- `POP HL`, 0xE1 (R146). -/
def execPopHL (s : State) : Result := .next (s.popPair .hl)

/-- `PUSH HL`, 0xE5 (R145). -/
def execPushHL (s : State) : Result := .next (s.pushPair .hl)

/-- `POP AF`, 0xF1 (R147). -/
def execPopAF (s : State) : Result := .next (s.popPair .af)

/-- `PUSH AF`, 0xF5 (R145). -/
def execPushAF (s : State) : Result := .next (s.pushPair .af)

/-- `LD HL,SP+e`, 0xF8 (R148). -/
def execLdHLSPDisp (e : Byte) (s : State) : Result := .next (s.hlFromSp e)

/-- `LD SP,HL`, 0xF9 (R144). -/
def execLdSPHL (s : State) : Result := .next s.spFromHl

end Sys2Proof.Machine
end

