-- ==== Sys2Proof/Machine/Load8.lean ====
section
/-! DEFINITION. The meanings of the 8-bit loads (40_load8.md R122 to R141). Each meaning starts after the instruction's own fetches (notes/assumptions/30.md). -/

namespace Sys2Proof.Machine

/-- `LD r,r'` (R123). -/
def State.loadReg (s : State) (dst src : Reg8) : State := s.setReg dst (s.reg src)

/-- `LD r,n` (R124). -/
def State.loadImm (s : State) (dst : Reg8) (n : Byte) : State := s.setReg dst n

/-- A load from an address (R125, R128, R129, R132, R134, R136). -/
def State.loadFrom (s : State) (dst : Reg8) (a : Addr) : State :=
  let r := s.memRead a
  r.2.setReg dst r.1

/-- A store at an address (R126, R127, R130, R131, R133, R135, R137). -/
def State.storeAt (s : State) (a : Addr) (v : Byte) : State := s.memWrite a v

/-- `LD A,(HL+)` and `LD A,(HL-)` (R138, R140). -/
def State.loadStep (s : State) (d : Addr) : State :=
  let r := s.memRead s.hl
  (r.2.setReg .a r.1).setHl (s.hl + d)

/-- `LD (HL+),A` and `LD (HL-),A` (R139, R141). -/
def State.storeStep (s : State) (d : Addr) : State := (s.memWrite s.hl (s.reg .a)).setHl (s.hl + d)

/-- `LD (BC),A`, 0x02 (R130). -/
def execLdAtBCA (s : State) : Result := .next (s.storeAt (s.pair .bc) (s.reg .a))

/-- `LD B,n`, 0x06 (R124). -/
def execLdBImm (n : Byte) (s : State) : Result := .next (s.loadImm .b n)

/-- `LD A,(BC)`, 0x0A (R128). -/
def execLdAAtBC (s : State) : Result := .next (s.loadFrom .a (s.pair .bc))

/-- `LD C,n`, 0x0E (R124). -/
def execLdCImm (n : Byte) (s : State) : Result := .next (s.loadImm .c n)

/-- `LD (DE),A`, 0x12 (R131). -/
def execLdAtDEA (s : State) : Result := .next (s.storeAt (s.pair .de) (s.reg .a))

/-- `LD D,n`, 0x16 (R124). -/
def execLdDImm (n : Byte) (s : State) : Result := .next (s.loadImm .d n)

/-- `LD A,(DE)`, 0x1A (R129). -/
def execLdAAtDE (s : State) : Result := .next (s.loadFrom .a (s.pair .de))

/-- `LD E,n`, 0x1E (R124). -/
def execLdEImm (n : Byte) (s : State) : Result := .next (s.loadImm .e n)

/-- `LD (HL+),A`, 0x22 (R139). -/
def execLdAtHLIncA (s : State) : Result := .next (s.storeStep 1)

/-- `LD H,n`, 0x26 (R124). -/
def execLdHImm (n : Byte) (s : State) : Result := .next (s.loadImm .h n)

/-- `LD A,(HL+)`, 0x2A (R138). -/
def execLdAAtHLInc (s : State) : Result := .next (s.loadStep 1)

/-- `LD L,n`, 0x2E (R124). -/
def execLdLImm (n : Byte) (s : State) : Result := .next (s.loadImm .l n)

/-- `LD (HL-),A`, 0x32 (R141). -/
def execLdAtHLDecA (s : State) : Result := .next (s.storeStep (-1))

/-- `LD (HL),n`, 0x36 (R127). -/
def execLdAtHLImm (n : Byte) (s : State) : Result := .next (s.storeAt s.hl n)

/-- `LD A,(HL-)`, 0x3A (R140). -/
def execLdAAtHLDec (s : State) : Result := .next (s.loadStep (-1))

/-- `LD A,n`, 0x3E (R124). -/
def execLdAImm (n : Byte) (s : State) : Result := .next (s.loadImm .a n)

/-- `LD B,B`, 0x40 (R123). -/
def execLdBB (s : State) : Result := .next (s.loadReg .b .b)

/-- `LD B,C`, 0x41 (R123). -/
def execLdBC (s : State) : Result := .next (s.loadReg .b .c)

/-- `LD B,D`, 0x42 (R123). -/
def execLdBD (s : State) : Result := .next (s.loadReg .b .d)

/-- `LD B,E`, 0x43 (R123). -/
def execLdBE (s : State) : Result := .next (s.loadReg .b .e)

/-- `LD B,H`, 0x44 (R123). -/
def execLdBH (s : State) : Result := .next (s.loadReg .b .h)

/-- `LD B,L`, 0x45 (R123). -/
def execLdBL (s : State) : Result := .next (s.loadReg .b .l)

/-- `LD B,(HL)`, 0x46 (R125). -/
def execLdBAtHL (s : State) : Result := .next (s.loadFrom .b s.hl)

/-- `LD B,A`, 0x47 (R123). -/
def execLdBA (s : State) : Result := .next (s.loadReg .b .a)

/-- `LD C,B`, 0x48 (R123). -/
def execLdCB (s : State) : Result := .next (s.loadReg .c .b)

/-- `LD C,C`, 0x49 (R123). -/
def execLdCC (s : State) : Result := .next (s.loadReg .c .c)

/-- `LD C,D`, 0x4A (R123). -/
def execLdCD (s : State) : Result := .next (s.loadReg .c .d)

/-- `LD C,E`, 0x4B (R123). -/
def execLdCE (s : State) : Result := .next (s.loadReg .c .e)

/-- `LD C,H`, 0x4C (R123). -/
def execLdCH (s : State) : Result := .next (s.loadReg .c .h)

/-- `LD C,L`, 0x4D (R123). -/
def execLdCL (s : State) : Result := .next (s.loadReg .c .l)

/-- `LD C,(HL)`, 0x4E (R125). -/
def execLdCAtHL (s : State) : Result := .next (s.loadFrom .c s.hl)

/-- `LD C,A`, 0x4F (R123). -/
def execLdCA (s : State) : Result := .next (s.loadReg .c .a)

/-- `LD D,B`, 0x50 (R123). -/
def execLdDB (s : State) : Result := .next (s.loadReg .d .b)

/-- `LD D,C`, 0x51 (R123). -/
def execLdDC (s : State) : Result := .next (s.loadReg .d .c)

/-- `LD D,D`, 0x52 (R123). -/
def execLdDD (s : State) : Result := .next (s.loadReg .d .d)

/-- `LD D,E`, 0x53 (R123). -/
def execLdDE (s : State) : Result := .next (s.loadReg .d .e)

/-- `LD D,H`, 0x54 (R123). -/
def execLdDH (s : State) : Result := .next (s.loadReg .d .h)

/-- `LD D,L`, 0x55 (R123). -/
def execLdDL (s : State) : Result := .next (s.loadReg .d .l)

/-- `LD D,(HL)`, 0x56 (R125). -/
def execLdDAtHL (s : State) : Result := .next (s.loadFrom .d s.hl)

/-- `LD D,A`, 0x57 (R123). -/
def execLdDA (s : State) : Result := .next (s.loadReg .d .a)

/-- `LD E,B`, 0x58 (R123). -/
def execLdEB (s : State) : Result := .next (s.loadReg .e .b)

/-- `LD E,C`, 0x59 (R123). -/
def execLdEC (s : State) : Result := .next (s.loadReg .e .c)

/-- `LD E,D`, 0x5A (R123). -/
def execLdED (s : State) : Result := .next (s.loadReg .e .d)

/-- `LD E,E`, 0x5B (R123). -/
def execLdEE (s : State) : Result := .next (s.loadReg .e .e)

/-- `LD E,H`, 0x5C (R123). -/
def execLdEH (s : State) : Result := .next (s.loadReg .e .h)

/-- `LD E,L`, 0x5D (R123). -/
def execLdEL (s : State) : Result := .next (s.loadReg .e .l)

/-- `LD E,(HL)`, 0x5E (R125). -/
def execLdEAtHL (s : State) : Result := .next (s.loadFrom .e s.hl)

/-- `LD E,A`, 0x5F (R123). -/
def execLdEA (s : State) : Result := .next (s.loadReg .e .a)

/-- `LD H,B`, 0x60 (R123). -/
def execLdHB (s : State) : Result := .next (s.loadReg .h .b)

/-- `LD H,C`, 0x61 (R123). -/
def execLdHC (s : State) : Result := .next (s.loadReg .h .c)

/-- `LD H,D`, 0x62 (R123). -/
def execLdHD (s : State) : Result := .next (s.loadReg .h .d)

/-- `LD H,E`, 0x63 (R123). -/
def execLdHE (s : State) : Result := .next (s.loadReg .h .e)

/-- `LD H,H`, 0x64 (R123). -/
def execLdHH (s : State) : Result := .next (s.loadReg .h .h)

/-- `LD H,L`, 0x65 (R123). -/
def execLdHL (s : State) : Result := .next (s.loadReg .h .l)

/-- `LD H,(HL)`, 0x66 (R125). -/
def execLdHAtHL (s : State) : Result := .next (s.loadFrom .h s.hl)

/-- `LD H,A`, 0x67 (R123). -/
def execLdHA (s : State) : Result := .next (s.loadReg .h .a)

/-- `LD L,B`, 0x68 (R123). -/
def execLdLB (s : State) : Result := .next (s.loadReg .l .b)

/-- `LD L,C`, 0x69 (R123). -/
def execLdLC (s : State) : Result := .next (s.loadReg .l .c)

/-- `LD L,D`, 0x6A (R123). -/
def execLdLD (s : State) : Result := .next (s.loadReg .l .d)

/-- `LD L,E`, 0x6B (R123). -/
def execLdLE (s : State) : Result := .next (s.loadReg .l .e)

/-- `LD L,H`, 0x6C (R123). -/
def execLdLH (s : State) : Result := .next (s.loadReg .l .h)

/-- `LD L,L`, 0x6D (R123). -/
def execLdLL (s : State) : Result := .next (s.loadReg .l .l)

/-- `LD L,(HL)`, 0x6E (R125). -/
def execLdLAtHL (s : State) : Result := .next (s.loadFrom .l s.hl)

/-- `LD L,A`, 0x6F (R123). -/
def execLdLA (s : State) : Result := .next (s.loadReg .l .a)

/-- `LD (HL),B`, 0x70 (R126). -/
def execLdAtHLB (s : State) : Result := .next (s.storeAt s.hl (s.reg .b))

/-- `LD (HL),C`, 0x71 (R126). -/
def execLdAtHLC (s : State) : Result := .next (s.storeAt s.hl (s.reg .c))

/-- `LD (HL),D`, 0x72 (R126). -/
def execLdAtHLD (s : State) : Result := .next (s.storeAt s.hl (s.reg .d))

/-- `LD (HL),E`, 0x73 (R126). -/
def execLdAtHLE (s : State) : Result := .next (s.storeAt s.hl (s.reg .e))

/-- `LD (HL),H`, 0x74 (R126). -/
def execLdAtHLH (s : State) : Result := .next (s.storeAt s.hl (s.reg .h))

/-- `LD (HL),L`, 0x75 (R126). -/
def execLdAtHLL (s : State) : Result := .next (s.storeAt s.hl (s.reg .l))

/-- `LD (HL),A`, 0x77 (R126). -/
def execLdAtHLA (s : State) : Result := .next (s.storeAt s.hl (s.reg .a))

/-- `LD A,B`, 0x78 (R123). -/
def execLdAB (s : State) : Result := .next (s.loadReg .a .b)

/-- `LD A,C`, 0x79 (R123). -/
def execLdAC (s : State) : Result := .next (s.loadReg .a .c)

/-- `LD A,D`, 0x7A (R123). -/
def execLdAD (s : State) : Result := .next (s.loadReg .a .d)

/-- `LD A,E`, 0x7B (R123). -/
def execLdAE (s : State) : Result := .next (s.loadReg .a .e)

/-- `LD A,H`, 0x7C (R123). -/
def execLdAH (s : State) : Result := .next (s.loadReg .a .h)

/-- `LD A,L`, 0x7D (R123). -/
def execLdAL (s : State) : Result := .next (s.loadReg .a .l)

/-- `LD A,(HL)`, 0x7E (R125). -/
def execLdAAtHL (s : State) : Result := .next (s.loadFrom .a s.hl)

/-- `LD A,A`, 0x7F (R123). -/
def execLdAA (s : State) : Result := .next (s.loadReg .a .a)

/-- `LDH (n),A`, 0xE0 (R137). -/
def execLdhAtImmA (n : Byte) (s : State) : Result := .next (s.storeAt (highPage n) (s.reg .a))

/-- `LD (C),A`, 0xE2 (R135). -/
def execLdAtCA (s : State) : Result := .next (s.storeAt (highPage s.cpu.c) (s.reg .a))

/-- `LD (nn),A`, 0xEA (R133). -/
def execLdAtImm16A (nn : Addr) (s : State) : Result := .next (s.storeAt nn (s.reg .a))

/-- `LDH A,(n)`, 0xF0 (R136). -/
def execLdhAAtImm (n : Byte) (s : State) : Result := .next (s.loadFrom .a (highPage n))

/-- `LD A,(C)`, 0xF2 (R134). -/
def execLdAAtC (s : State) : Result := .next (s.loadFrom .a (highPage s.cpu.c))

/-- `LD A,(nn)`, 0xFA (R132). -/
def execLdAAtImm16 (nn : Addr) (s : State) : Result := .next (s.loadFrom .a nn)

end Sys2Proof.Machine
end

