-- ==== Sys2Proof/Machine/Rotate.lean ====
section
/-! DEFINITION. The meanings of the rotates, shifts and bit operations (44_rotate_shift_bit.md R169 to R184). Each meaning starts after the instruction's own fetches (notes/assumptions/30.md). -/

namespace Sys2Proof.Machine

/-- `RLCA`, `RRCA`, `RLA`, `RRA` (R169 to R172). -/
def State.rotateA (s : State) (op : ShiftOp) : State :=
  let r := rotateAResult op s.cpu.a s.flagC
  (s.setReg .a r.value).flagsOf r

/-- A CB rotate or shift (R173 to R181): F is written after the M-cycle of the write (notes/assumptions/48.md). -/
def State.shift (s : State) (op : ShiftOp) (o : Operand8) : State :=
  let r := s.readOperand o
  (r.2.writeOperand o (shiftResult op r.1 s.flagC).value).flagsOf (shiftResult op r.1 s.flagC)

/-- `BIT b,r` (R182). -/
def State.testBit (s : State) (b : Nat) (o : Operand8) : State :=
  let r := s.readOperand o
  r.2.flagsOf (bitResult b r.1 s.flagC)

/-- `RES b,r` (R183). -/
def State.clearBit (s : State) (b : Nat) (o : Operand8) : State :=
  let r := s.readOperand o
  r.2.writeOperand o (resetBit b r.1)

/-- `SET b,r` (R184). -/
def State.raiseBit (s : State) (b : Nat) (o : Operand8) : State :=
  let r := s.readOperand o
  r.2.writeOperand o (setBit b r.1)

/-- `RLCA`, 0x07 (R169). -/
def execRlca (s : State) : Result := .next (s.rotateA .rlc)

/-- `RRCA`, 0x0F (R170). -/
def execRrca (s : State) : Result := .next (s.rotateA .rrc)

/-- `RLA`, 0x17 (R171). -/
def execRla (s : State) : Result := .next (s.rotateA .rl)

/-- `RRA`, 0x1F (R172). -/
def execRra (s : State) : Result := .next (s.rotateA .rr)

/-- `RLC B`, 0xCB 0x00 (R174). -/
def execRlcB (s : State) : Result := .next (s.shift .rlc (.reg .b))

/-- `RLC C`, 0xCB 0x01 (R174). -/
def execRlcC (s : State) : Result := .next (s.shift .rlc (.reg .c))

/-- `RLC D`, 0xCB 0x02 (R174). -/
def execRlcD (s : State) : Result := .next (s.shift .rlc (.reg .d))

/-- `RLC E`, 0xCB 0x03 (R174). -/
def execRlcE (s : State) : Result := .next (s.shift .rlc (.reg .e))

/-- `RLC H`, 0xCB 0x04 (R174). -/
def execRlcH (s : State) : Result := .next (s.shift .rlc (.reg .h))

/-- `RLC L`, 0xCB 0x05 (R174). -/
def execRlcL (s : State) : Result := .next (s.shift .rlc (.reg .l))

/-- `RLC (HL)`, 0xCB 0x06 (R174). -/
def execRlcAtHL (s : State) : Result := .next (s.shift .rlc .atHL)

/-- `RLC A`, 0xCB 0x07 (R174). -/
def execRlcA (s : State) : Result := .next (s.shift .rlc (.reg .a))

/-- `RRC B`, 0xCB 0x08 (R175). -/
def execRrcB (s : State) : Result := .next (s.shift .rrc (.reg .b))

/-- `RRC C`, 0xCB 0x09 (R175). -/
def execRrcC (s : State) : Result := .next (s.shift .rrc (.reg .c))

/-- `RRC D`, 0xCB 0x0A (R175). -/
def execRrcD (s : State) : Result := .next (s.shift .rrc (.reg .d))

/-- `RRC E`, 0xCB 0x0B (R175). -/
def execRrcE (s : State) : Result := .next (s.shift .rrc (.reg .e))

/-- `RRC H`, 0xCB 0x0C (R175). -/
def execRrcH (s : State) : Result := .next (s.shift .rrc (.reg .h))

/-- `RRC L`, 0xCB 0x0D (R175). -/
def execRrcL (s : State) : Result := .next (s.shift .rrc (.reg .l))

/-- `RRC (HL)`, 0xCB 0x0E (R175). -/
def execRrcAtHL (s : State) : Result := .next (s.shift .rrc .atHL)

/-- `RRC A`, 0xCB 0x0F (R175). -/
def execRrcA (s : State) : Result := .next (s.shift .rrc (.reg .a))

/-- `RL B`, 0xCB 0x10 (R176). -/
def execRlB (s : State) : Result := .next (s.shift .rl (.reg .b))

/-- `RL C`, 0xCB 0x11 (R176). -/
def execRlC (s : State) : Result := .next (s.shift .rl (.reg .c))

/-- `RL D`, 0xCB 0x12 (R176). -/
def execRlD (s : State) : Result := .next (s.shift .rl (.reg .d))

/-- `RL E`, 0xCB 0x13 (R176). -/
def execRlE (s : State) : Result := .next (s.shift .rl (.reg .e))

/-- `RL H`, 0xCB 0x14 (R176). -/
def execRlH (s : State) : Result := .next (s.shift .rl (.reg .h))

/-- `RL L`, 0xCB 0x15 (R176). -/
def execRlL (s : State) : Result := .next (s.shift .rl (.reg .l))

/-- `RL (HL)`, 0xCB 0x16 (R176). -/
def execRlAtHL (s : State) : Result := .next (s.shift .rl .atHL)

/-- `RL A`, 0xCB 0x17 (R176). -/
def execRlA (s : State) : Result := .next (s.shift .rl (.reg .a))

/-- `RR B`, 0xCB 0x18 (R177). -/
def execRrB (s : State) : Result := .next (s.shift .rr (.reg .b))

/-- `RR C`, 0xCB 0x19 (R177). -/
def execRrC (s : State) : Result := .next (s.shift .rr (.reg .c))

/-- `RR D`, 0xCB 0x1A (R177). -/
def execRrD (s : State) : Result := .next (s.shift .rr (.reg .d))

/-- `RR E`, 0xCB 0x1B (R177). -/
def execRrE (s : State) : Result := .next (s.shift .rr (.reg .e))

/-- `RR H`, 0xCB 0x1C (R177). -/
def execRrH (s : State) : Result := .next (s.shift .rr (.reg .h))

/-- `RR L`, 0xCB 0x1D (R177). -/
def execRrL (s : State) : Result := .next (s.shift .rr (.reg .l))

/-- `RR (HL)`, 0xCB 0x1E (R177). -/
def execRrAtHL (s : State) : Result := .next (s.shift .rr .atHL)

/-- `RR A`, 0xCB 0x1F (R177). -/
def execRrA (s : State) : Result := .next (s.shift .rr (.reg .a))

/-- `SLA B`, 0xCB 0x20 (R178). -/
def execSlaB (s : State) : Result := .next (s.shift .sla (.reg .b))

/-- `SLA C`, 0xCB 0x21 (R178). -/
def execSlaC (s : State) : Result := .next (s.shift .sla (.reg .c))

/-- `SLA D`, 0xCB 0x22 (R178). -/
def execSlaD (s : State) : Result := .next (s.shift .sla (.reg .d))

/-- `SLA E`, 0xCB 0x23 (R178). -/
def execSlaE (s : State) : Result := .next (s.shift .sla (.reg .e))

/-- `SLA H`, 0xCB 0x24 (R178). -/
def execSlaH (s : State) : Result := .next (s.shift .sla (.reg .h))

/-- `SLA L`, 0xCB 0x25 (R178). -/
def execSlaL (s : State) : Result := .next (s.shift .sla (.reg .l))

/-- `SLA (HL)`, 0xCB 0x26 (R178). -/
def execSlaAtHL (s : State) : Result := .next (s.shift .sla .atHL)

/-- `SLA A`, 0xCB 0x27 (R178). -/
def execSlaA (s : State) : Result := .next (s.shift .sla (.reg .a))

/-- `SRA B`, 0xCB 0x28 (R179). -/
def execSraB (s : State) : Result := .next (s.shift .sra (.reg .b))

/-- `SRA C`, 0xCB 0x29 (R179). -/
def execSraC (s : State) : Result := .next (s.shift .sra (.reg .c))

/-- `SRA D`, 0xCB 0x2A (R179). -/
def execSraD (s : State) : Result := .next (s.shift .sra (.reg .d))

/-- `SRA E`, 0xCB 0x2B (R179). -/
def execSraE (s : State) : Result := .next (s.shift .sra (.reg .e))

/-- `SRA H`, 0xCB 0x2C (R179). -/
def execSraH (s : State) : Result := .next (s.shift .sra (.reg .h))

/-- `SRA L`, 0xCB 0x2D (R179). -/
def execSraL (s : State) : Result := .next (s.shift .sra (.reg .l))

/-- `SRA (HL)`, 0xCB 0x2E (R179). -/
def execSraAtHL (s : State) : Result := .next (s.shift .sra .atHL)

/-- `SRA A`, 0xCB 0x2F (R179). -/
def execSraA (s : State) : Result := .next (s.shift .sra (.reg .a))

/-- `SWAP B`, 0xCB 0x30 (R180). -/
def execSwapB (s : State) : Result := .next (s.shift .swap (.reg .b))

/-- `SWAP C`, 0xCB 0x31 (R180). -/
def execSwapC (s : State) : Result := .next (s.shift .swap (.reg .c))

/-- `SWAP D`, 0xCB 0x32 (R180). -/
def execSwapD (s : State) : Result := .next (s.shift .swap (.reg .d))

/-- `SWAP E`, 0xCB 0x33 (R180). -/
def execSwapE (s : State) : Result := .next (s.shift .swap (.reg .e))

/-- `SWAP H`, 0xCB 0x34 (R180). -/
def execSwapH (s : State) : Result := .next (s.shift .swap (.reg .h))

/-- `SWAP L`, 0xCB 0x35 (R180). -/
def execSwapL (s : State) : Result := .next (s.shift .swap (.reg .l))

/-- `SWAP (HL)`, 0xCB 0x36 (R180). -/
def execSwapAtHL (s : State) : Result := .next (s.shift .swap .atHL)

/-- `SWAP A`, 0xCB 0x37 (R180). -/
def execSwapA (s : State) : Result := .next (s.shift .swap (.reg .a))

/-- `SRL B`, 0xCB 0x38 (R181). -/
def execSrlB (s : State) : Result := .next (s.shift .srl (.reg .b))

/-- `SRL C`, 0xCB 0x39 (R181). -/
def execSrlC (s : State) : Result := .next (s.shift .srl (.reg .c))

/-- `SRL D`, 0xCB 0x3A (R181). -/
def execSrlD (s : State) : Result := .next (s.shift .srl (.reg .d))

/-- `SRL E`, 0xCB 0x3B (R181). -/
def execSrlE (s : State) : Result := .next (s.shift .srl (.reg .e))

/-- `SRL H`, 0xCB 0x3C (R181). -/
def execSrlH (s : State) : Result := .next (s.shift .srl (.reg .h))

/-- `SRL L`, 0xCB 0x3D (R181). -/
def execSrlL (s : State) : Result := .next (s.shift .srl (.reg .l))

/-- `SRL (HL)`, 0xCB 0x3E (R181). -/
def execSrlAtHL (s : State) : Result := .next (s.shift .srl .atHL)

/-- `SRL A`, 0xCB 0x3F (R181). -/
def execSrlA (s : State) : Result := .next (s.shift .srl (.reg .a))

/-- `BIT 0,B`, 0xCB 0x40 (R182). -/
def execBit0B (s : State) : Result := .next (s.testBit 0 (.reg .b))

/-- `BIT 0,C`, 0xCB 0x41 (R182). -/
def execBit0C (s : State) : Result := .next (s.testBit 0 (.reg .c))

/-- `BIT 0,D`, 0xCB 0x42 (R182). -/
def execBit0D (s : State) : Result := .next (s.testBit 0 (.reg .d))

/-- `BIT 0,E`, 0xCB 0x43 (R182). -/
def execBit0E (s : State) : Result := .next (s.testBit 0 (.reg .e))

/-- `BIT 0,H`, 0xCB 0x44 (R182). -/
def execBit0H (s : State) : Result := .next (s.testBit 0 (.reg .h))

/-- `BIT 0,L`, 0xCB 0x45 (R182). -/
def execBit0L (s : State) : Result := .next (s.testBit 0 (.reg .l))

/-- `BIT 0,(HL)`, 0xCB 0x46 (R182). -/
def execBit0AtHL (s : State) : Result := .next (s.testBit 0 .atHL)

/-- `BIT 0,A`, 0xCB 0x47 (R182). -/
def execBit0A (s : State) : Result := .next (s.testBit 0 (.reg .a))

/-- `BIT 1,B`, 0xCB 0x48 (R182). -/
def execBit1B (s : State) : Result := .next (s.testBit 1 (.reg .b))

/-- `BIT 1,C`, 0xCB 0x49 (R182). -/
def execBit1C (s : State) : Result := .next (s.testBit 1 (.reg .c))

/-- `BIT 1,D`, 0xCB 0x4A (R182). -/
def execBit1D (s : State) : Result := .next (s.testBit 1 (.reg .d))

/-- `BIT 1,E`, 0xCB 0x4B (R182). -/
def execBit1E (s : State) : Result := .next (s.testBit 1 (.reg .e))

/-- `BIT 1,H`, 0xCB 0x4C (R182). -/
def execBit1H (s : State) : Result := .next (s.testBit 1 (.reg .h))

/-- `BIT 1,L`, 0xCB 0x4D (R182). -/
def execBit1L (s : State) : Result := .next (s.testBit 1 (.reg .l))

/-- `BIT 1,(HL)`, 0xCB 0x4E (R182). -/
def execBit1AtHL (s : State) : Result := .next (s.testBit 1 .atHL)

/-- `BIT 1,A`, 0xCB 0x4F (R182). -/
def execBit1A (s : State) : Result := .next (s.testBit 1 (.reg .a))

/-- `BIT 2,B`, 0xCB 0x50 (R182). -/
def execBit2B (s : State) : Result := .next (s.testBit 2 (.reg .b))

/-- `BIT 2,C`, 0xCB 0x51 (R182). -/
def execBit2C (s : State) : Result := .next (s.testBit 2 (.reg .c))

/-- `BIT 2,D`, 0xCB 0x52 (R182). -/
def execBit2D (s : State) : Result := .next (s.testBit 2 (.reg .d))

/-- `BIT 2,E`, 0xCB 0x53 (R182). -/
def execBit2E (s : State) : Result := .next (s.testBit 2 (.reg .e))

/-- `BIT 2,H`, 0xCB 0x54 (R182). -/
def execBit2H (s : State) : Result := .next (s.testBit 2 (.reg .h))

/-- `BIT 2,L`, 0xCB 0x55 (R182). -/
def execBit2L (s : State) : Result := .next (s.testBit 2 (.reg .l))

/-- `BIT 2,(HL)`, 0xCB 0x56 (R182). -/
def execBit2AtHL (s : State) : Result := .next (s.testBit 2 .atHL)

/-- `BIT 2,A`, 0xCB 0x57 (R182). -/
def execBit2A (s : State) : Result := .next (s.testBit 2 (.reg .a))

/-- `BIT 3,B`, 0xCB 0x58 (R182). -/
def execBit3B (s : State) : Result := .next (s.testBit 3 (.reg .b))

/-- `BIT 3,C`, 0xCB 0x59 (R182). -/
def execBit3C (s : State) : Result := .next (s.testBit 3 (.reg .c))

/-- `BIT 3,D`, 0xCB 0x5A (R182). -/
def execBit3D (s : State) : Result := .next (s.testBit 3 (.reg .d))

/-- `BIT 3,E`, 0xCB 0x5B (R182). -/
def execBit3E (s : State) : Result := .next (s.testBit 3 (.reg .e))

/-- `BIT 3,H`, 0xCB 0x5C (R182). -/
def execBit3H (s : State) : Result := .next (s.testBit 3 (.reg .h))

/-- `BIT 3,L`, 0xCB 0x5D (R182). -/
def execBit3L (s : State) : Result := .next (s.testBit 3 (.reg .l))

/-- `BIT 3,(HL)`, 0xCB 0x5E (R182). -/
def execBit3AtHL (s : State) : Result := .next (s.testBit 3 .atHL)

/-- `BIT 3,A`, 0xCB 0x5F (R182). -/
def execBit3A (s : State) : Result := .next (s.testBit 3 (.reg .a))

/-- `BIT 4,B`, 0xCB 0x60 (R182). -/
def execBit4B (s : State) : Result := .next (s.testBit 4 (.reg .b))

/-- `BIT 4,C`, 0xCB 0x61 (R182). -/
def execBit4C (s : State) : Result := .next (s.testBit 4 (.reg .c))

/-- `BIT 4,D`, 0xCB 0x62 (R182). -/
def execBit4D (s : State) : Result := .next (s.testBit 4 (.reg .d))

/-- `BIT 4,E`, 0xCB 0x63 (R182). -/
def execBit4E (s : State) : Result := .next (s.testBit 4 (.reg .e))

/-- `BIT 4,H`, 0xCB 0x64 (R182). -/
def execBit4H (s : State) : Result := .next (s.testBit 4 (.reg .h))

/-- `BIT 4,L`, 0xCB 0x65 (R182). -/
def execBit4L (s : State) : Result := .next (s.testBit 4 (.reg .l))

/-- `BIT 4,(HL)`, 0xCB 0x66 (R182). -/
def execBit4AtHL (s : State) : Result := .next (s.testBit 4 .atHL)

/-- `BIT 4,A`, 0xCB 0x67 (R182). -/
def execBit4A (s : State) : Result := .next (s.testBit 4 (.reg .a))

/-- `BIT 5,B`, 0xCB 0x68 (R182). -/
def execBit5B (s : State) : Result := .next (s.testBit 5 (.reg .b))

/-- `BIT 5,C`, 0xCB 0x69 (R182). -/
def execBit5C (s : State) : Result := .next (s.testBit 5 (.reg .c))

/-- `BIT 5,D`, 0xCB 0x6A (R182). -/
def execBit5D (s : State) : Result := .next (s.testBit 5 (.reg .d))

/-- `BIT 5,E`, 0xCB 0x6B (R182). -/
def execBit5E (s : State) : Result := .next (s.testBit 5 (.reg .e))

/-- `BIT 5,H`, 0xCB 0x6C (R182). -/
def execBit5H (s : State) : Result := .next (s.testBit 5 (.reg .h))

/-- `BIT 5,L`, 0xCB 0x6D (R182). -/
def execBit5L (s : State) : Result := .next (s.testBit 5 (.reg .l))

/-- `BIT 5,(HL)`, 0xCB 0x6E (R182). -/
def execBit5AtHL (s : State) : Result := .next (s.testBit 5 .atHL)

/-- `BIT 5,A`, 0xCB 0x6F (R182). -/
def execBit5A (s : State) : Result := .next (s.testBit 5 (.reg .a))

/-- `BIT 6,B`, 0xCB 0x70 (R182). -/
def execBit6B (s : State) : Result := .next (s.testBit 6 (.reg .b))

/-- `BIT 6,C`, 0xCB 0x71 (R182). -/
def execBit6C (s : State) : Result := .next (s.testBit 6 (.reg .c))

/-- `BIT 6,D`, 0xCB 0x72 (R182). -/
def execBit6D (s : State) : Result := .next (s.testBit 6 (.reg .d))

/-- `BIT 6,E`, 0xCB 0x73 (R182). -/
def execBit6E (s : State) : Result := .next (s.testBit 6 (.reg .e))

/-- `BIT 6,H`, 0xCB 0x74 (R182). -/
def execBit6H (s : State) : Result := .next (s.testBit 6 (.reg .h))

/-- `BIT 6,L`, 0xCB 0x75 (R182). -/
def execBit6L (s : State) : Result := .next (s.testBit 6 (.reg .l))

/-- `BIT 6,(HL)`, 0xCB 0x76 (R182). -/
def execBit6AtHL (s : State) : Result := .next (s.testBit 6 .atHL)

/-- `BIT 6,A`, 0xCB 0x77 (R182). -/
def execBit6A (s : State) : Result := .next (s.testBit 6 (.reg .a))

/-- `BIT 7,B`, 0xCB 0x78 (R182). -/
def execBit7B (s : State) : Result := .next (s.testBit 7 (.reg .b))

/-- `BIT 7,C`, 0xCB 0x79 (R182). -/
def execBit7C (s : State) : Result := .next (s.testBit 7 (.reg .c))

/-- `BIT 7,D`, 0xCB 0x7A (R182). -/
def execBit7D (s : State) : Result := .next (s.testBit 7 (.reg .d))

/-- `BIT 7,E`, 0xCB 0x7B (R182). -/
def execBit7E (s : State) : Result := .next (s.testBit 7 (.reg .e))

/-- `BIT 7,H`, 0xCB 0x7C (R182). -/
def execBit7H (s : State) : Result := .next (s.testBit 7 (.reg .h))

/-- `BIT 7,L`, 0xCB 0x7D (R182). -/
def execBit7L (s : State) : Result := .next (s.testBit 7 (.reg .l))

/-- `BIT 7,(HL)`, 0xCB 0x7E (R182). -/
def execBit7AtHL (s : State) : Result := .next (s.testBit 7 .atHL)

/-- `BIT 7,A`, 0xCB 0x7F (R182). -/
def execBit7A (s : State) : Result := .next (s.testBit 7 (.reg .a))

/-- `RES 0,B`, 0xCB 0x80 (R183). -/
def execRes0B (s : State) : Result := .next (s.clearBit 0 (.reg .b))

/-- `RES 0,C`, 0xCB 0x81 (R183). -/
def execRes0C (s : State) : Result := .next (s.clearBit 0 (.reg .c))

/-- `RES 0,D`, 0xCB 0x82 (R183). -/
def execRes0D (s : State) : Result := .next (s.clearBit 0 (.reg .d))

/-- `RES 0,E`, 0xCB 0x83 (R183). -/
def execRes0E (s : State) : Result := .next (s.clearBit 0 (.reg .e))

/-- `RES 0,H`, 0xCB 0x84 (R183). -/
def execRes0H (s : State) : Result := .next (s.clearBit 0 (.reg .h))

/-- `RES 0,L`, 0xCB 0x85 (R183). -/
def execRes0L (s : State) : Result := .next (s.clearBit 0 (.reg .l))

/-- `RES 0,(HL)`, 0xCB 0x86 (R183). -/
def execRes0AtHL (s : State) : Result := .next (s.clearBit 0 .atHL)

/-- `RES 0,A`, 0xCB 0x87 (R183). -/
def execRes0A (s : State) : Result := .next (s.clearBit 0 (.reg .a))

/-- `RES 1,B`, 0xCB 0x88 (R183). -/
def execRes1B (s : State) : Result := .next (s.clearBit 1 (.reg .b))

/-- `RES 1,C`, 0xCB 0x89 (R183). -/
def execRes1C (s : State) : Result := .next (s.clearBit 1 (.reg .c))

/-- `RES 1,D`, 0xCB 0x8A (R183). -/
def execRes1D (s : State) : Result := .next (s.clearBit 1 (.reg .d))

/-- `RES 1,E`, 0xCB 0x8B (R183). -/
def execRes1E (s : State) : Result := .next (s.clearBit 1 (.reg .e))

/-- `RES 1,H`, 0xCB 0x8C (R183). -/
def execRes1H (s : State) : Result := .next (s.clearBit 1 (.reg .h))

/-- `RES 1,L`, 0xCB 0x8D (R183). -/
def execRes1L (s : State) : Result := .next (s.clearBit 1 (.reg .l))

/-- `RES 1,(HL)`, 0xCB 0x8E (R183). -/
def execRes1AtHL (s : State) : Result := .next (s.clearBit 1 .atHL)

/-- `RES 1,A`, 0xCB 0x8F (R183). -/
def execRes1A (s : State) : Result := .next (s.clearBit 1 (.reg .a))

/-- `RES 2,B`, 0xCB 0x90 (R183). -/
def execRes2B (s : State) : Result := .next (s.clearBit 2 (.reg .b))

/-- `RES 2,C`, 0xCB 0x91 (R183). -/
def execRes2C (s : State) : Result := .next (s.clearBit 2 (.reg .c))

/-- `RES 2,D`, 0xCB 0x92 (R183). -/
def execRes2D (s : State) : Result := .next (s.clearBit 2 (.reg .d))

/-- `RES 2,E`, 0xCB 0x93 (R183). -/
def execRes2E (s : State) : Result := .next (s.clearBit 2 (.reg .e))

/-- `RES 2,H`, 0xCB 0x94 (R183). -/
def execRes2H (s : State) : Result := .next (s.clearBit 2 (.reg .h))

/-- `RES 2,L`, 0xCB 0x95 (R183). -/
def execRes2L (s : State) : Result := .next (s.clearBit 2 (.reg .l))

/-- `RES 2,(HL)`, 0xCB 0x96 (R183). -/
def execRes2AtHL (s : State) : Result := .next (s.clearBit 2 .atHL)

/-- `RES 2,A`, 0xCB 0x97 (R183). -/
def execRes2A (s : State) : Result := .next (s.clearBit 2 (.reg .a))

/-- `RES 3,B`, 0xCB 0x98 (R183). -/
def execRes3B (s : State) : Result := .next (s.clearBit 3 (.reg .b))

/-- `RES 3,C`, 0xCB 0x99 (R183). -/
def execRes3C (s : State) : Result := .next (s.clearBit 3 (.reg .c))

/-- `RES 3,D`, 0xCB 0x9A (R183). -/
def execRes3D (s : State) : Result := .next (s.clearBit 3 (.reg .d))

/-- `RES 3,E`, 0xCB 0x9B (R183). -/
def execRes3E (s : State) : Result := .next (s.clearBit 3 (.reg .e))

/-- `RES 3,H`, 0xCB 0x9C (R183). -/
def execRes3H (s : State) : Result := .next (s.clearBit 3 (.reg .h))

/-- `RES 3,L`, 0xCB 0x9D (R183). -/
def execRes3L (s : State) : Result := .next (s.clearBit 3 (.reg .l))

/-- `RES 3,(HL)`, 0xCB 0x9E (R183). -/
def execRes3AtHL (s : State) : Result := .next (s.clearBit 3 .atHL)

/-- `RES 3,A`, 0xCB 0x9F (R183). -/
def execRes3A (s : State) : Result := .next (s.clearBit 3 (.reg .a))

/-- `RES 4,B`, 0xCB 0xA0 (R183). -/
def execRes4B (s : State) : Result := .next (s.clearBit 4 (.reg .b))

/-- `RES 4,C`, 0xCB 0xA1 (R183). -/
def execRes4C (s : State) : Result := .next (s.clearBit 4 (.reg .c))

/-- `RES 4,D`, 0xCB 0xA2 (R183). -/
def execRes4D (s : State) : Result := .next (s.clearBit 4 (.reg .d))

/-- `RES 4,E`, 0xCB 0xA3 (R183). -/
def execRes4E (s : State) : Result := .next (s.clearBit 4 (.reg .e))

/-- `RES 4,H`, 0xCB 0xA4 (R183). -/
def execRes4H (s : State) : Result := .next (s.clearBit 4 (.reg .h))

/-- `RES 4,L`, 0xCB 0xA5 (R183). -/
def execRes4L (s : State) : Result := .next (s.clearBit 4 (.reg .l))

/-- `RES 4,(HL)`, 0xCB 0xA6 (R183). -/
def execRes4AtHL (s : State) : Result := .next (s.clearBit 4 .atHL)

/-- `RES 4,A`, 0xCB 0xA7 (R183). -/
def execRes4A (s : State) : Result := .next (s.clearBit 4 (.reg .a))

/-- `RES 5,B`, 0xCB 0xA8 (R183). -/
def execRes5B (s : State) : Result := .next (s.clearBit 5 (.reg .b))

/-- `RES 5,C`, 0xCB 0xA9 (R183). -/
def execRes5C (s : State) : Result := .next (s.clearBit 5 (.reg .c))

/-- `RES 5,D`, 0xCB 0xAA (R183). -/
def execRes5D (s : State) : Result := .next (s.clearBit 5 (.reg .d))

/-- `RES 5,E`, 0xCB 0xAB (R183). -/
def execRes5E (s : State) : Result := .next (s.clearBit 5 (.reg .e))

/-- `RES 5,H`, 0xCB 0xAC (R183). -/
def execRes5H (s : State) : Result := .next (s.clearBit 5 (.reg .h))

/-- `RES 5,L`, 0xCB 0xAD (R183). -/
def execRes5L (s : State) : Result := .next (s.clearBit 5 (.reg .l))

/-- `RES 5,(HL)`, 0xCB 0xAE (R183). -/
def execRes5AtHL (s : State) : Result := .next (s.clearBit 5 .atHL)

/-- `RES 5,A`, 0xCB 0xAF (R183). -/
def execRes5A (s : State) : Result := .next (s.clearBit 5 (.reg .a))

/-- `RES 6,B`, 0xCB 0xB0 (R183). -/
def execRes6B (s : State) : Result := .next (s.clearBit 6 (.reg .b))

/-- `RES 6,C`, 0xCB 0xB1 (R183). -/
def execRes6C (s : State) : Result := .next (s.clearBit 6 (.reg .c))

/-- `RES 6,D`, 0xCB 0xB2 (R183). -/
def execRes6D (s : State) : Result := .next (s.clearBit 6 (.reg .d))

/-- `RES 6,E`, 0xCB 0xB3 (R183). -/
def execRes6E (s : State) : Result := .next (s.clearBit 6 (.reg .e))

/-- `RES 6,H`, 0xCB 0xB4 (R183). -/
def execRes6H (s : State) : Result := .next (s.clearBit 6 (.reg .h))

/-- `RES 6,L`, 0xCB 0xB5 (R183). -/
def execRes6L (s : State) : Result := .next (s.clearBit 6 (.reg .l))

/-- `RES 6,(HL)`, 0xCB 0xB6 (R183). -/
def execRes6AtHL (s : State) : Result := .next (s.clearBit 6 .atHL)

/-- `RES 6,A`, 0xCB 0xB7 (R183). -/
def execRes6A (s : State) : Result := .next (s.clearBit 6 (.reg .a))

/-- `RES 7,B`, 0xCB 0xB8 (R183). -/
def execRes7B (s : State) : Result := .next (s.clearBit 7 (.reg .b))

/-- `RES 7,C`, 0xCB 0xB9 (R183). -/
def execRes7C (s : State) : Result := .next (s.clearBit 7 (.reg .c))

/-- `RES 7,D`, 0xCB 0xBA (R183). -/
def execRes7D (s : State) : Result := .next (s.clearBit 7 (.reg .d))

/-- `RES 7,E`, 0xCB 0xBB (R183). -/
def execRes7E (s : State) : Result := .next (s.clearBit 7 (.reg .e))

/-- `RES 7,H`, 0xCB 0xBC (R183). -/
def execRes7H (s : State) : Result := .next (s.clearBit 7 (.reg .h))

/-- `RES 7,L`, 0xCB 0xBD (R183). -/
def execRes7L (s : State) : Result := .next (s.clearBit 7 (.reg .l))

/-- `RES 7,(HL)`, 0xCB 0xBE (R183). -/
def execRes7AtHL (s : State) : Result := .next (s.clearBit 7 .atHL)

/-- `RES 7,A`, 0xCB 0xBF (R183). -/
def execRes7A (s : State) : Result := .next (s.clearBit 7 (.reg .a))

/-- `SET 0,B`, 0xCB 0xC0 (R184). -/
def execSet0B (s : State) : Result := .next (s.raiseBit 0 (.reg .b))

/-- `SET 0,C`, 0xCB 0xC1 (R184). -/
def execSet0C (s : State) : Result := .next (s.raiseBit 0 (.reg .c))

/-- `SET 0,D`, 0xCB 0xC2 (R184). -/
def execSet0D (s : State) : Result := .next (s.raiseBit 0 (.reg .d))

/-- `SET 0,E`, 0xCB 0xC3 (R184). -/
def execSet0E (s : State) : Result := .next (s.raiseBit 0 (.reg .e))

/-- `SET 0,H`, 0xCB 0xC4 (R184). -/
def execSet0H (s : State) : Result := .next (s.raiseBit 0 (.reg .h))

/-- `SET 0,L`, 0xCB 0xC5 (R184). -/
def execSet0L (s : State) : Result := .next (s.raiseBit 0 (.reg .l))

/-- `SET 0,(HL)`, 0xCB 0xC6 (R184). -/
def execSet0AtHL (s : State) : Result := .next (s.raiseBit 0 .atHL)

/-- `SET 0,A`, 0xCB 0xC7 (R184). -/
def execSet0A (s : State) : Result := .next (s.raiseBit 0 (.reg .a))

/-- `SET 1,B`, 0xCB 0xC8 (R184). -/
def execSet1B (s : State) : Result := .next (s.raiseBit 1 (.reg .b))

/-- `SET 1,C`, 0xCB 0xC9 (R184). -/
def execSet1C (s : State) : Result := .next (s.raiseBit 1 (.reg .c))

/-- `SET 1,D`, 0xCB 0xCA (R184). -/
def execSet1D (s : State) : Result := .next (s.raiseBit 1 (.reg .d))

/-- `SET 1,E`, 0xCB 0xCB (R184). -/
def execSet1E (s : State) : Result := .next (s.raiseBit 1 (.reg .e))

/-- `SET 1,H`, 0xCB 0xCC (R184). -/
def execSet1H (s : State) : Result := .next (s.raiseBit 1 (.reg .h))

/-- `SET 1,L`, 0xCB 0xCD (R184). -/
def execSet1L (s : State) : Result := .next (s.raiseBit 1 (.reg .l))

/-- `SET 1,(HL)`, 0xCB 0xCE (R184). -/
def execSet1AtHL (s : State) : Result := .next (s.raiseBit 1 .atHL)

/-- `SET 1,A`, 0xCB 0xCF (R184). -/
def execSet1A (s : State) : Result := .next (s.raiseBit 1 (.reg .a))

/-- `SET 2,B`, 0xCB 0xD0 (R184). -/
def execSet2B (s : State) : Result := .next (s.raiseBit 2 (.reg .b))

/-- `SET 2,C`, 0xCB 0xD1 (R184). -/
def execSet2C (s : State) : Result := .next (s.raiseBit 2 (.reg .c))

/-- `SET 2,D`, 0xCB 0xD2 (R184). -/
def execSet2D (s : State) : Result := .next (s.raiseBit 2 (.reg .d))

/-- `SET 2,E`, 0xCB 0xD3 (R184). -/
def execSet2E (s : State) : Result := .next (s.raiseBit 2 (.reg .e))

/-- `SET 2,H`, 0xCB 0xD4 (R184). -/
def execSet2H (s : State) : Result := .next (s.raiseBit 2 (.reg .h))

/-- `SET 2,L`, 0xCB 0xD5 (R184). -/
def execSet2L (s : State) : Result := .next (s.raiseBit 2 (.reg .l))

/-- `SET 2,(HL)`, 0xCB 0xD6 (R184). -/
def execSet2AtHL (s : State) : Result := .next (s.raiseBit 2 .atHL)

/-- `SET 2,A`, 0xCB 0xD7 (R184). -/
def execSet2A (s : State) : Result := .next (s.raiseBit 2 (.reg .a))

/-- `SET 3,B`, 0xCB 0xD8 (R184). -/
def execSet3B (s : State) : Result := .next (s.raiseBit 3 (.reg .b))

/-- `SET 3,C`, 0xCB 0xD9 (R184). -/
def execSet3C (s : State) : Result := .next (s.raiseBit 3 (.reg .c))

/-- `SET 3,D`, 0xCB 0xDA (R184). -/
def execSet3D (s : State) : Result := .next (s.raiseBit 3 (.reg .d))

/-- `SET 3,E`, 0xCB 0xDB (R184). -/
def execSet3E (s : State) : Result := .next (s.raiseBit 3 (.reg .e))

/-- `SET 3,H`, 0xCB 0xDC (R184). -/
def execSet3H (s : State) : Result := .next (s.raiseBit 3 (.reg .h))

/-- `SET 3,L`, 0xCB 0xDD (R184). -/
def execSet3L (s : State) : Result := .next (s.raiseBit 3 (.reg .l))

/-- `SET 3,(HL)`, 0xCB 0xDE (R184). -/
def execSet3AtHL (s : State) : Result := .next (s.raiseBit 3 .atHL)

/-- `SET 3,A`, 0xCB 0xDF (R184). -/
def execSet3A (s : State) : Result := .next (s.raiseBit 3 (.reg .a))

/-- `SET 4,B`, 0xCB 0xE0 (R184). -/
def execSet4B (s : State) : Result := .next (s.raiseBit 4 (.reg .b))

/-- `SET 4,C`, 0xCB 0xE1 (R184). -/
def execSet4C (s : State) : Result := .next (s.raiseBit 4 (.reg .c))

/-- `SET 4,D`, 0xCB 0xE2 (R184). -/
def execSet4D (s : State) : Result := .next (s.raiseBit 4 (.reg .d))

/-- `SET 4,E`, 0xCB 0xE3 (R184). -/
def execSet4E (s : State) : Result := .next (s.raiseBit 4 (.reg .e))

/-- `SET 4,H`, 0xCB 0xE4 (R184). -/
def execSet4H (s : State) : Result := .next (s.raiseBit 4 (.reg .h))

/-- `SET 4,L`, 0xCB 0xE5 (R184). -/
def execSet4L (s : State) : Result := .next (s.raiseBit 4 (.reg .l))

/-- `SET 4,(HL)`, 0xCB 0xE6 (R184). -/
def execSet4AtHL (s : State) : Result := .next (s.raiseBit 4 .atHL)

/-- `SET 4,A`, 0xCB 0xE7 (R184). -/
def execSet4A (s : State) : Result := .next (s.raiseBit 4 (.reg .a))

/-- `SET 5,B`, 0xCB 0xE8 (R184). -/
def execSet5B (s : State) : Result := .next (s.raiseBit 5 (.reg .b))

/-- `SET 5,C`, 0xCB 0xE9 (R184). -/
def execSet5C (s : State) : Result := .next (s.raiseBit 5 (.reg .c))

/-- `SET 5,D`, 0xCB 0xEA (R184). -/
def execSet5D (s : State) : Result := .next (s.raiseBit 5 (.reg .d))

/-- `SET 5,E`, 0xCB 0xEB (R184). -/
def execSet5E (s : State) : Result := .next (s.raiseBit 5 (.reg .e))

/-- `SET 5,H`, 0xCB 0xEC (R184). -/
def execSet5H (s : State) : Result := .next (s.raiseBit 5 (.reg .h))

/-- `SET 5,L`, 0xCB 0xED (R184). -/
def execSet5L (s : State) : Result := .next (s.raiseBit 5 (.reg .l))

/-- `SET 5,(HL)`, 0xCB 0xEE (R184). -/
def execSet5AtHL (s : State) : Result := .next (s.raiseBit 5 .atHL)

/-- `SET 5,A`, 0xCB 0xEF (R184). -/
def execSet5A (s : State) : Result := .next (s.raiseBit 5 (.reg .a))

/-- `SET 6,B`, 0xCB 0xF0 (R184). -/
def execSet6B (s : State) : Result := .next (s.raiseBit 6 (.reg .b))

/-- `SET 6,C`, 0xCB 0xF1 (R184). -/
def execSet6C (s : State) : Result := .next (s.raiseBit 6 (.reg .c))

/-- `SET 6,D`, 0xCB 0xF2 (R184). -/
def execSet6D (s : State) : Result := .next (s.raiseBit 6 (.reg .d))

/-- `SET 6,E`, 0xCB 0xF3 (R184). -/
def execSet6E (s : State) : Result := .next (s.raiseBit 6 (.reg .e))

/-- `SET 6,H`, 0xCB 0xF4 (R184). -/
def execSet6H (s : State) : Result := .next (s.raiseBit 6 (.reg .h))

/-- `SET 6,L`, 0xCB 0xF5 (R184). -/
def execSet6L (s : State) : Result := .next (s.raiseBit 6 (.reg .l))

/-- `SET 6,(HL)`, 0xCB 0xF6 (R184). -/
def execSet6AtHL (s : State) : Result := .next (s.raiseBit 6 .atHL)

/-- `SET 6,A`, 0xCB 0xF7 (R184). -/
def execSet6A (s : State) : Result := .next (s.raiseBit 6 (.reg .a))

/-- `SET 7,B`, 0xCB 0xF8 (R184). -/
def execSet7B (s : State) : Result := .next (s.raiseBit 7 (.reg .b))

/-- `SET 7,C`, 0xCB 0xF9 (R184). -/
def execSet7C (s : State) : Result := .next (s.raiseBit 7 (.reg .c))

/-- `SET 7,D`, 0xCB 0xFA (R184). -/
def execSet7D (s : State) : Result := .next (s.raiseBit 7 (.reg .d))

/-- `SET 7,E`, 0xCB 0xFB (R184). -/
def execSet7E (s : State) : Result := .next (s.raiseBit 7 (.reg .e))

/-- `SET 7,H`, 0xCB 0xFC (R184). -/
def execSet7H (s : State) : Result := .next (s.raiseBit 7 (.reg .h))

/-- `SET 7,L`, 0xCB 0xFD (R184). -/
def execSet7L (s : State) : Result := .next (s.raiseBit 7 (.reg .l))

/-- `SET 7,(HL)`, 0xCB 0xFE (R184). -/
def execSet7AtHL (s : State) : Result := .next (s.raiseBit 7 .atHL)

/-- `SET 7,A`, 0xCB 0xFF (R184). -/
def execSet7A (s : State) : Result := .next (s.raiseBit 7 (.reg .a))

end Sys2Proof.Machine
end

