-- ==== Sys2Proof/Machine/System.lean ====
section
/-! DEFINITION. The meanings of the system instructions (46_system.md R197 to R208). Each meaning starts after the instruction's own fetches (notes/assumptions/30.md). -/

namespace Sys2Proof.Machine

/-- `DI` (R199). -/
def State.disableInterrupts (s : State) : State := { s with cpu := { s.cpu with ime := false, imePending := false } }

/-- `EI` (R200). -/
def State.enableInterrupts (s : State) : State := { s with cpu := { s.cpu with imePending := true } }

/-- `HALT` (R201, R202). -/
def State.haltCpu (s : State) : State :=
  if !s.pending then { s with cpu := { s.cpu with halted := true } }
  else if s.cpu.imeBefore then s
  else { s with cpu := { s.cpu with haltBug := true } }

/-- `STOP` after its operand fetch (R204). -/
def State.stopCpu (s : State) : State :=
  match s.model with
  | .cgb => if s.speedArmed then s.speedSwitch else s.stopMode
  | .dmg | .cgbDmg => s.stopMode

/-- `NOP`, 0x00 (R198). -/
def execNop (s : State) : Result := .next s

/-- `STOP`, 0x10 (R204). -/
def execStop (_n : Byte) (s : State) : Result := .next s.stopCpu

/-- `HALT`, 0x76 (R201). -/
def execHalt (s : State) : Result := .next s.haltCpu

/-- `ILLEGAL_D3`, 0xD3 (R208). -/
def execIllegalD3 (s : State) : Result := .next s.lockUp

/-- `ILLEGAL_DB`, 0xDB (R208). -/
def execIllegalDB (s : State) : Result := .next s.lockUp

/-- `ILLEGAL_DD`, 0xDD (R208). -/
def execIllegalDD (s : State) : Result := .next s.lockUp

/-- `ILLEGAL_E3`, 0xE3 (R208). -/
def execIllegalE3 (s : State) : Result := .next s.lockUp

/-- `ILLEGAL_E4`, 0xE4 (R208). -/
def execIllegalE4 (s : State) : Result := .next s.lockUp

/-- `ILLEGAL_EB`, 0xEB (R208). -/
def execIllegalEB (s : State) : Result := .next s.lockUp

/-- `ILLEGAL_EC`, 0xEC (R208). -/
def execIllegalEC (s : State) : Result := .next s.lockUp

/-- `ILLEGAL_ED`, 0xED (R208). -/
def execIllegalED (s : State) : Result := .next s.lockUp

/-- `DI`, 0xF3 (R199). -/
def execDi (s : State) : Result := .next s.disableInterrupts

/-- `ILLEGAL_F4`, 0xF4 (R208). -/
def execIllegalF4 (s : State) : Result := .next s.lockUp

/-- `EI`, 0xFB (R200). -/
def execEi (s : State) : Result := .next s.enableInterrupts

/-- `ILLEGAL_FC`, 0xFC (R208). -/
def execIllegalFC (s : State) : Result := .next s.lockUp

/-- `ILLEGAL_FD`, 0xFD (R208). -/
def execIllegalFD (s : State) : Result := .next s.lockUp

end Sys2Proof.Machine
end

