-- ==== Sys2Proof/Machine/Cycle.lean ====
section
/-! DEFINITION. The CPU step (30_encoding.md R119): a lockup, stall, stop or halt cycle, an interrupt dispatch, or one instruction. -/

namespace Sys2Proof.Machine

/-- The name of a decoding error. -/
def decodeErrorName : DecodeError → String
  | .noBytes => "no bytes"
  | .missingOperand => "missing operand"
  | .noRow => "no row"

/-- The instruction part of `CpuStep()`: fetch, decode, execute. -/
def State.runInstr (s : State) : Result :=
  let f := s.startInstr.fetchInstr
  match decode f.1 with
  | .ok (i, _) => exec i f.2
  | .error e => .refused (.undecodable (decodeErrorName e))

/-- An instruction boundary: dispatch, or run an instruction. -/
def State.atBoundary (s : State) : Result := if s.cpu.ime && s.pending then .next s.dispatch else s.runInstr

/-- `CpuStep()` (R119). -/
def State.cpuStep (s : State) : Result :=
  if s.cpu.lockedUp then .next s.internal
  else if s.cpu.stallCount ≠ 0 then .next s.stallCycle
  else if s.cpu.stopped then .next s.stopCycle
  else if s.cpu.halted then (if s.pending then s.haltWake.atBoundary else .next s.internal)
  else s.atBoundary

/-- A next state in which the refused mark is set has no meaning (R25). -/
def unlessMisused : Result → Result
  | .next s => if s.host.refusedMark then .refused .hookMisuse else .next s
  | .fault e => .fault e
  | .refused e => .refused e

/-- A step of the machine: refused with no cartridge (R245, R262), and when a hook makes or has made a call it must not (R25, R236;
notes/assumptions/38.md). -/
def State.guardedStep (s : State) : Result :=
  if !s.loaded then .refused .noCartridge
  else if s.host.refusedMark then .refused .hookMisuse
  else unlessMisused s.cpuStep

end Sys2Proof.Machine
end

