-- ==== Sys2Proof/Machine/Place.lean ====
section
/-! DEFINITION. Placing an instruction where the next fetch reads it (notes/assumptions/2.md). -/

namespace Sys2Proof.Machine

/-- Put a byte where a read of an address finds it, with no side effect. Nothing is placed where no byte is stored: an I/O register,
0xFEA0-0xFEFF, an RTC register, or cartridge RAM that is absent or disabled. -/
def State.placeByte (s : State) (a : Addr) (v : Byte) : State :=
  match s.region a with
  | .low a =>
    if s.inBootRom a then { s with bootRom := s.bootRom.set a.toNat v }
    else { s with rom := s.rom.write (s.cart.romOffset a) v }
  | .vram off => s.setRamByte .vram off v
  | .cart a =>
    match s.cart.window a with
    | .ram off => s.setRamByte .cartRam off v
    | .nibble off => s.setRamByte .cartRam off (v &&& 0x0F)
    | .rtc _ | .openBus => s
  | .wram off => s.setRamByte .wram off v
  | .oam off => s.setRamByte .oam off v
  | .hram off => s.setRamByte .hram off v
  | .ie => { s with ie := v }
  | .unusable | .io _ => s

/-- Put bytes at consecutive addresses, modulo 2^16. -/
def State.placeBytes (s : State) (a : Addr) : List Byte → State
  | [] => s
  | v :: vs => State.placeBytes (s.placeByte a v) (a + 1) vs

/-- The instruction of an opcode-table word at PC, the first byte at PC. -/
def State.placeTableWord (s : State) (nbits w : Nat) : State := s.placeBytes s.cpu.pc (tableBytes nbits w)

end Sys2Proof.Machine
end

