-- ==== Sys2Proof/Machine/Step.lean ====
section
/-! DEFINITION. One step of the machine, and the placing of an instruction word for it. -/

namespace Sys2Proof.Machine

/-- One step: `CpuStep()` of 30_encoding.md R119. -/
def step (s : State) : Host.Outcome State Fault Refusal := s.guardedStep

/-- The machine with an opcode-table word stored where the next step fetches. -/
def State.withFetchWord (s : State) (nbits w : Nat) : State := s.placeTableWord nbits w

end Sys2Proof.Machine
end

