-- ==== Sys2Proof/Machine/Reset.lean ====
section
/-! DEFINITION. `Reset()` in every model and boot mode (70_reset_and_hazards.md R249 to R255). -/

namespace Sys2Proof.Machine

/-- The CPU with every register and latch 0: the last row of R250, and R251. -/
def Cpu.zero : Cpu where
  a := 0
  f := 0
  b := 0
  c := 0
  d := 0
  e := 0
  h := 0
  l := 0
  sp := 0
  pc := 0
  ime := false
  imePending := false
  imeBefore := false
  halted := false
  haltBug := false
  stopped := false
  lockedUp := false
  stallCount := 0

/-- The CPU after reset (R250, R251). -/
def Cpu.afterReset (model : Model) (agbRegs bios : Bool) : Cpu :=
  if bios then Cpu.zero
  else
    match model with
    | .dmg => Cpu.reset
    | .cgb =>
      { Cpu.zero with
        a := 0x11, f := if agbRegs then 0x00 else 0x80, b := if agbRegs then 0x01 else 0x00
        d := 0xFF, e := 0x56, l := 0x0D, sp := 0xFFFE, pc := 0x0100 }
    | .cgbDmg =>
      { Cpu.zero with
        a := 0x11, f := if agbRegs then 0x00 else 0x80, b := if agbRegs then 0x01 else 0x00
        e := 0x08, l := 0x7C, sp := 0xFFFE, pc := 0x0100 }

/-- The system counter after reset (R253). -/
def sysCounterAfterReset (model : Model) (bios : Bool) : BitVec 16 :=
  if bios then 0
  else
    match model with
    | .dmg => 0xABCC
    | .cgb | .cgbDmg => Config.postBootSysCounter model

/-- The stored bits of SC after reset: fast and internal clock (R252, R254). -/
def Serial.afterReset (model : Model) (bios : Bool) : Serial :=
  match model with
  | .dmg => ⟨0x00, false, false, false, 0, 0⟩
  | .cgb => ⟨0x00, false, !bios, !bios, 0, 0⟩
  | .cgbDmg => ⟨0x00, false, false, !bios, 0, 0⟩

/-- DMA after reset (R252, R254). -/
def dmaAfterReset (model : Model) (bios : Bool) : Byte :=
  match model with
  | .dmg => if bios then 0x00 else 0xFF
  | .cgb | .cgbDmg => 0x00

/-- The bank-controller registers at their reset values (R76 to R82); the cartridge bus holds no value yet. -/
def Cart.afterReset (c : Cart) : Cart := { Cart.plain with info := c.info }

/-- `Reset()` (R249), from the boot ROM stored by now (R246). The free values go on (notes/assumptions/36.md);
no frame is being drawn yet (notes/assumptions/60.md). -/
def State.afterReset (s : State) : State :=
  { s with
    cpu := Cpu.afterReset s.model s.agbRegs s.bios
    ie := 0x00
    irq := ⟨!s.bios, false, false, false, false⟩
    timer := ⟨sysCounterAfterReset s.model s.bios, 0x00, 0x00, 0, false, false, false⟩
    serial := Serial.afterReset s.model s.bios
    joypad := ⟨0, 0xF⟩
    oamDma := ⟨dmaAfterReset s.model s.bios, false, false, 0⟩
    hdma := ⟨0, 0, false, 0, 0⟩
    ppu := ⟨if s.bios then 0x00 else 0x91, 0⟩
    doubleSpeed := false
    speedArmed := false
    vbk := 0
    svbk := 0
    bootMapped := s.bios
    bootRom := s.storedBootRom
    cart := s.cart.afterReset
    vram := []
    wram := []
    oam := []
    hram := []
    io := if s.bios then [] else postBootRegisters
    ioPowerOn := s.bios
    cycles := 0
    baseTicks := 0
    host := { s.host with hitAddress := none, stopRequested := false, picture := [] } }

end Sys2Proof.Machine
end

