-- ==== Sys2Proof/Machine/HostCalls.lean ====
section
/-! DEFINITION. The host interface between steps (70_reset_and_hazards.md R245 to R249, R262 to R270; 60_exceptions.md R233 to R242;
20_memory.md R71, R72, R89 to R91; 10_state.md R43 to R45): every host call, and the `runFor` time coordinator. -/

namespace Sys2Proof.Machine

/-- The flags of `load` (R247). -/
structure LoadFlags where
  forceColor : Bool
  enhancedRegs : Bool
  multicart : Bool
  noBios : Bool
  deriving DecidableEq, Repr

/-- The hook kinds without a parameter (R236). -/
inductive HookKind where
  | read
  | write
  | exec
  | trace
  | linkByte
  | inputPoll
  | codeData
  deriving DecidableEq, Repr

/-- A save-state stream (R270): what the cartridge and the model are, and the fields walked. Its bytes are P_STATE_LAYOUT's
(notes/assumptions/33.md). -/
structure Stream where
  machine : State
  deriving DecidableEq, Repr

/-- The host calls (R266). A null buffer of `runFor` or `blitTo` is `none`; `runFor` also takes the host's answers to the hook calls
of the call and what the peer on the link cable does in it, and the last two are accesses through a pointer that `getMemoryArea` gave (R72). -/
inductive HostCall where
  | load (bytes : List Byte) (flags : LoadFlags)
  | loadBios (bytes : List Byte)
  | runFor (capacity : Option Nat) (samples : Int) (replies : List HookReply) (peer : Peer)
  | blitTo (null : Bool) (pitch : Nat)
  | setLayers (mask : Nat)
  | reset
  | setDmgPaletteColor (p i : Nat) (rgb : BitVec 32)
  | setCgbPalette (lut : List (BitVec 32))
  | setHook (kind : HookKind) (registered : Bool)
  | setScanlineHook (registered : Bool) (line : Int)
  | setTimeMode (useCycles : Bool)
  | setRtcDivisorOffset (value : Int)
  | setCartBusPullUpTime (value : Int)
  | isCgb
  | isCgbDmg
  | isLoaded
  | romTitle
  | saveSavedata (length : Nat) (det : Bool)
  | loadSavedata (bytes : List Byte) (det : Bool)
  | saveSavedataLength (det : Bool)
  | getMemoryArea (i : Nat)
  | externalRead (addr : Addr)
  | externalWrite (addr : Addr) (value : Byte)
  | linkStatus (which : Int)
  | getRegs
  | setRegs (slots : List Nat)
  | getRtcRegs
  | setRtcRegs (slots : List Nat)
  | setInterruptAddresses (entries : List (BitVec 32))
  | getHitInterruptAddress
  | saveState
  | loadState (stream : Stream)
  | peekArea (i off : Nat)
  | pokeArea (i off : Nat) (v : Byte)
  deriving DecidableEq, Repr

/-- What a host call returns (R266). A failure code is named by its `Fault` (P_ERROR_CODES, R267). -/
inductive HostReturn where
  | nothing
  | code (failure : Option Fault)
  | boolean (b : Bool)
  | bytes (bs : List Byte)
  | count (n : Nat)
  | slots (ns : List Nat)
  | integer (v : Int)
  | area (length : Option Nat)
  | optionalByte (v : Option Byte)
  /-- `buf` entries by index. -/
  | pixels (ps : List (Nat × BitVec 32))
  /-- The frame offset or -1, the count of samples produced, and what is written to `buf`: nothing where it is null. -/
  | run (frameOffset : Int) (produced : Nat) (buf : List (BitVec 32))
  | stream (st : Stream)
  deriving DecidableEq, Repr

/-- The outcome of a host call. -/
abbrev HostResult := Host.Outcome (HostReturn × State) Fault Refusal

/-- `ModelSelect(forceColor, image)`, of the image's header byte 0x0143 (R248). -/
def modelSelect (forceColor : Bool) (header : Byte) : Model :=
  if forceColor then (if bit header 7 then .cgb else .cgbDmg) else .dmg

/-- A cartridge image as the ROM store. -/
def romOf (image : List Byte) : Mem := image.zipIdx.map fun p => (p.2, p.1)

/-- A byte of the cartridge header, a draw where the image has none (R248, R268; notes/assumptions/57.md). -/
def headerByte (draws : Nat) (rom : Mem) (off : Nat) : Byte := (rom.read off).getD (Config.absentHeaderByte draws off)

/-- Bind a cartridge and reset: the last lines of `load` (R247). -/
def State.bindCartridge (s : State) (image : List Byte) (m : CartMeta) : State :=
  { s with
    loaded := true
    rom := romOf image
    cart := { Cart.plain with info := m }
    cartRam := []
    rtc := Rtc.zero
    host := { s.host with lastFrame := .initial } }.afterReset

/-- `load` once P_CART_META has given its result (R247). -/
def State.loadWith (s : State) (image : List Byte) (flags : LoadFlags) (result : CartMetaResult) : HostReturn × State :=
  let t := { s with loaded := false }
  match result with
  | .invalidImage => (.code (some .invalidImage), t)
  | .unsupportedMapper => (.code (some .unsupportedMapper), t)
  | .cart m =>
    let model := modelSelect flags.forceColor (headerByte s.draws (romOf image) 0x143)
    let u := { t with
      model := model
      agbRegs := flags.enhancedRegs && model != .dmg
      bios := !flags.noBios
      draws := s.draws + 1 }
    if u.bios && u.storedBootRom.isEmpty then (.code (some .biosMismatch), u) else (.code none, u.bindCartridge image m)

/-- `load(bytes, length, flags)` (R247). -/
def State.load (s : State) (image : List Byte) (flags : LoadFlags) : HostReturn × State :=
  s.loadWith image flags ((Config.cartMeta image flags.multicart).legal flags.multicart)

/-- `loadBios(bytes, length)` (R246): the image is stored for the next `load` or `reset`. -/
def State.loadBios (s : State) (image : List Byte) : HostReturn × State :=
  if image.length = 256 then (.code none, { s with bootDmg := image })
  else if image.length = 2304 then (.code none, { s with bootCgb := image })
  else (.code (some .biosMismatch), s)

/-- The stopping conditions of `runFor` (R262). -/
def State.runStops (s : State) (requested : Nat) : Bool :=
  s.host.frameOffset.isSome || decide (requested ≤ s.host.produced) || s.host.stopRequested

/-- The loop of `runFor` (R262), with a bound on its steps. -/
def runLoop : Nat → Nat → State → Host.Outcome State Fault Refusal
  | 0, _, s => .next s
  | n + 1, requested, s =>
    if s.runStops requested then .next s
    else
      match step s with
      | .next t => runLoop n requested t
      | .fault r => .fault r
      | .refused r => .refused r

/-- The start of a `runFor` call (R262), with the host's inputs of the call (R266). -/
def State.startRun (s : State) (replies : List HookReply) (peer : Peer) : State :=
  { s with host := { s.host with
      produced := 0
      frameOffset := none
      hitAddress := none
      stopRequested := false
      callStartTick := s.cycles
      samples := []
      events := []
      replies := replies
      peer := peer } }

/-- A frame offset, or -1. -/
def frameOffsetReturn : Option Nat → Int
  | some n => n
  | none => -1

/-- The end of a `runFor` call in the state its loop ends in (R262): the samples go to the buffer, and with a null one they are
discarded. -/
def State.endRun (s : State) (null : Bool) : HostReturn × State :=
  (.run (frameOffsetReturn s.host.frameOffset) s.host.produced (if null then [] else s.host.samples.reverse),
    { s with host := { s.host with samples := [] } })

/-- The loop of `runFor` for a call; every step produces a sample, so `requested` steps are enough (R263). -/
def State.run (s : State) (requested : Nat) (replies : List HookReply) (peer : Peer) : Host.Outcome State Fault Refusal :=
  runLoop requested requested (s.startRun replies peer)

/-- `runFor(buf, samples)` (R262): a buffer smaller than requested + 2,064, or a negative count, is refused. -/
def State.runFor (s : State) (capacity : Option Nat) (samples : Int) (replies : List HookReply) (peer : Peer) : HostResult :=
  if samples < 0 || (capacity.map fun c => decide ((c : Int) < samples + 2064)).getD false then .refused .badBuffer
  else
    match s.run samples.toNat replies peer with
    | .next t => .next (t.endRun capacity.isNone)
    | .fault r => .fault r
    | .refused r => .refused r

/-- Whether a layer mask enables a layer (R233). -/
def layerEnabled (mask : BitVec 3) : Layer → Bool
  | .background => mask.getLsbD 0
  | .obj => mask.getLsbD 1
  | .window => mask.getLsbD 2

/-- The layers visible at a pixel: those that are opaque there and that the mask enables (R233). -/
def visibleLayers (mask : BitVec 3) (n x y : Nat) : List Layer :=
  [.background, .obj, .window].filter fun k => layerEnabled mask k && Config.drawnOpaque n x y k

/-- The layer on top at a pixel, none where every layer is transparent (R230, R233; notes/assumptions/11.md). -/
def topLayer (mask : BitVec 3) (n x y : Nat) : Option Layer :=
  let visible := visibleLayers mask n x y
  visible[Config.drawnTop n x y visible % visible.length]?

/-- The DMG palette a layer's pixel goes through: BG, SP1 or SP2 (R234; notes/assumptions/11.md). -/
def dmgPaletteOf (n x y : Nat) : Option Layer → Nat
  | some .obj => if Config.drawnSp2 n x y then 2 else 1
  | some .background | some .window | none => 0

/-- The output colour of a layer's pixel: the DMG table in the DMG model, the colour table in the CGB and CGB-DMG models (R234). -/
def Palettes.pixel (q : Palettes) (m : Model) (n x y : Nat) (k : Option Layer) : BitVec 32 :=
  match m with
  | .dmg => q.dmgColour (dmgPaletteOf n x y k) (Config.drawnShade n x y k).val
  | .cgb | .cgbDmg => q.cgbColour (Config.drawnColour n x y k)

/-- The looks in force in line y: those of a picture, the last in force until a frame position, whose span meets the line's 456 base
ticks (R231; notes/assumptions/51.md). -/
def looksIn (y : Nat) (stop : Nat) : Picture → List Look
  | [] => []
  | (start, k) :: earlier =>
    if start < Config.lineTicks * (y + 1) ∧ Config.lineTicks * y < stop then k :: looksIn y start earlier else looksIn y start earlier

/-- A pixel of the last completed frame (R233, R234, R235, R261). -/
def Frame.pixel (f : Frame) (x y : Nat) : BitVec 32 :=
  match f with
  | .initial => Config.initialFrame x y
  | .drawn n m final picture =>
    let k := (looksIn y Config.vblankTick picture).getD (Config.drawnLook n x y % (looksIn y Config.vblankTick picture).length) final
    k.palettes.pixel m n x y (topLayer k.layerMask n x y)
  | .lcdOff m => Config.lcdOffFrame m x y

/-- `blitTo(buf, pitch)` (R235). -/
def State.blit (s : State) (pitch : Nat) : List (Nat × BitVec 32) :=
  (List.range 144).flatMap fun y => (List.range 160).map fun x => (y * pitch + x, s.host.lastFrame.pixel x y)

/-- Register or clear a hook (R236). -/
def Hooks.set (h : Hooks) (b : Bool) : HookKind → Hooks
  | .read => { h with read := b }
  | .write => { h with write := b }
  | .exec => { h with exec := b }
  | .trace => { h with trace := b }
  | .linkByte => { h with linkByte := b }
  | .inputPoll => { h with inputPoll := b }
  | .codeData => { h with codeData := b }

/-- Replace the hook slots. -/
def State.setHooks (s : State) (h : Hooks) : State := { s with host := { s.host with hooks := h } }

/-- The bytes of the cartridge header from 0x0134 to 0x0143, up to the first 0 (R268). -/
def State.romTitle (s : State) : List Byte :=
  ((List.range 16).map fun k => headerByte s.draws s.rom (0x134 + k)).takeWhile (· != 0)

/-- RAMBYTES (R269). -/
def Cart.saveBytes (c : Cart) : Nat :=
  if c.info.battery then
    match c.info.kind with
    | .mbc2 => 512
    | .noMbc | .mbc1 | .mbc3 | .mbc5 => c.info.ramBanks * 8192
  else 0

/-- Whether save data has an RTC part (R269). -/
def Cart.savesRtc (c : Cart) (det : Bool) : Bool := c.info.hasRtc && !det

/-- `saveSavedataLength(det)` (R269). -/
def State.saveLength (s : State) (det : Bool) : Nat :=
  s.cart.saveBytes + (if s.cart.savesRtc det then Config.rtcSaveLen else 0)

/-- A cartridge RAM byte as save data holds it (R269). -/
def State.saveByte (s : State) (off : Nat) : Byte :=
  match s.cart.info.kind with
  | .mbc2 => 0xF0 ||| (s.ramByte .cartRam off &&& 0x0F)
  | .noMbc | .mbc1 | .mbc3 | .mbc5 => s.ramByte .cartRam off

/-- A byte of save data as cartridge RAM takes it (R269). -/
def Cart.loadByte (c : Cart) (v : Byte) : Byte :=
  match c.info.kind with
  | .mbc2 => v &&& 0x0F
  | .noMbc | .mbc1 | .mbc3 | .mbc5 => v

/-- The 11 slots of `getRtcRegs` (R91): slot 4 is DH without bit 7, slot 10 is CARRY. -/
def Rtc.slots (r : Rtc) : List Nat :=
  [r.s.toNat, r.m.toNat, r.h.toNat, r.dl.toNat, (r.dh &&& 0x41).toNat, r.latchedS.toNat, r.latchedM.toNat,
   r.latchedH.toNat, r.latchedDL.toNat, (r.latchedDH &&& 0xC1).toNat, r.carry.toNat]

/-- The RTC with its 11 slots replaced (R91). -/
def Rtc.ofSlots (r : Rtc) (slots : List Nat) : Rtc :=
  let v := fun k => slots.getD k 0
  { r with
    s := BitVec.ofNat 6 (v 0)
    m := BitVec.ofNat 6 (v 1)
    h := BitVec.ofNat 5 (v 2)
    d := BitVec.ofNat 9 (v 3 % 256 + 256 * (v 4 % 2))
    halt := decide (v 4 / 64 % 2 = 1)
    latchedS := BitVec.ofNat 6 (v 5)
    latchedM := BitVec.ofNat 6 (v 6)
    latchedH := BitVec.ofNat 5 (v 7)
    latchedDL := BitVec.ofNat 8 (v 8)
    latchedDH := BitVec.ofNat 8 (v 9) &&& 0xC1
    carry := decide (v 10 % 2 = 1) }

/-- Whether every slot fits its field (R266); a DH' with a bit outside 7, 6 and 0 does not (notes/assumptions/47.md). -/
def rtcSlotsFit : List Nat → Bool
  | [s, m, h, dl, dh, s', m', h', dl', dh', carry] =>
    decide (s < 64) && decide (m < 64) && decide (h < 32) && decide (dl < 256) && [0, 1, 64, 65].contains dh &&
    decide (s' < 64) && decide (m' < 64) && decide (h' < 32) && decide (dl' < 256) &&
    [0, 1, 64, 65, 128, 129, 192, 193].contains dh' && decide (carry < 2)
  | _ => false

/-- `saveSavedata(dest, det)` (R269): cartridge RAM in order of offset, then the RTC part unless det. -/
def State.saveData (s : State) (det : Bool) : List Byte :=
  (List.range s.cart.saveBytes).map s.saveByte ++
  (if s.cart.savesRtc det then
    (List.range Config.rtcSaveLen).map (Config.rtcSaveByte s.rtc.slots (Config.wallStamp s.draws)) else [])

/-- `loadSavedata(src, det)` (R269). -/
def State.loadData (s : State) (bytes : List Byte) (det : Bool) : State :=
  let n := s.cart.saveBytes
  { s with
    cartRam := s.cartRam.writeAll 0 ((bytes.take n).map s.cart.loadByte)
    rtc := if s.cart.savesRtc det then s.rtc.ofSlots (Config.rtcLoadSlots (bytes.drop n)) else s.rtc }

/-- The domain of `setRegs` (R45). -/
def registerSlotsFit : List Nat → Bool
  | [pc, sp, a, b, c, d, e, f, h, l] =>
    decide (pc < 0x10000) && decide (sp < 0x10000) && [a, b, c, d, e, f, h, l].all (· < 0x100) && f % 16 == 0
  | _ => false

/-- `setRegs(x)` (R45): the registers, and nothing else. -/
def State.setRegisterSlots (s : State) (x : List Nat) : State :=
  let v := fun k => x.getD k 0
  { s with cpu := { s.cpu with
      pc := BitVec.ofNat 16 (v 0)
      sp := BitVec.ofNat 16 (v 1)
      a := BitVec.ofNat 8 (v 2)
      b := BitVec.ofNat 8 (v 3)
      c := BitVec.ofNat 8 (v 4)
      d := BitVec.ofNat 8 (v 5)
      e := BitVec.ofNat 8 (v 6)
      f := BitVec.ofNat 8 (v 7) &&& 0xF0
      h := BitVec.ofNat 8 (v 8)
      l := BitVec.ofNat 8 (v 9) } }

/-- An entry of `setInterruptAddresses` (R240): bank 0xFFFF is bank-independent. -/
def Breakpoint.unpack (p : BitVec 32) : Breakpoint where
  bank := if p.extractLsb' 16 16 = 0xFFFF then none else some (p.extractLsb' 16 16).toNat
  addr := p.extractLsb' 0 16

/-- `getHitInterruptAddress()` (R242). -/
def hitReturn : Option Addr → Int
  | some a => a.toNat
  | none => -1

/-- Restoring a stream (R270): the fields walked come from it; the hook slots, palettes, layer mask, cartridge image, boot ROMs, hit
address, last frame, run-time configuration and the free values stay. The frame being drawn is the PPU's and comes from the stream
(notes/assumptions/60.md), and so does the boot-ROM mapped flag, also to a machine loaded without BIOS (notes/assumptions/33.md). -/
def State.restore (s : State) (st : Stream) : State :=
  { st.machine with
    bios := s.bios
    agbRegs := s.agbRegs
    loaded := s.loaded
    bootDmg := s.bootDmg
    bootCgb := s.bootCgb
    bootRom := s.bootRom
    rom := s.rom
    draws := s.draws
    host := { s.host with
      breakpoints := st.machine.host.breakpoints
      picture := st.machine.host.picture
      rtcCycleMode := st.machine.host.rtcCycleMode } }

/-- Whether a stream is of the same cartridge and model (R270): a byte of ROM that the host changed makes another cartridge
(notes/assumptions/33.md). -/
def State.ownStream (s : State) (st : Stream) : Bool :=
  decide (st.machine.model = s.model ∧ st.machine.cart.info = s.cart.info ∧ st.machine.rom = s.rom)

/-- `externalRead(addr)` (R71): read resolution at the current tick, with the read hook if P_EXTERNAL_HOOKS is true. -/
def State.externalRead (s : State) (a : Addr) : Byte × State :=
  (s.fire (Config.externalHooks && s.host.hooks.read) (.read a s.hookOffset)).resolveRead a

/-- `externalWrite(addr, value)` (R71): write resolution at the current tick, with the write hook if P_EXTERNAL_HOOKS is true. -/
def State.externalWrite (s : State) (a : Addr) (v : Byte) : State :=
  (s.fire (Config.externalHooks && s.host.hooks.write) (.write a s.hookOffset)).resolveWrite a v

/-- A call that needs a cartridge (R245, R266). -/
def State.needsCart (s : State) (r : HostResult) : HostResult := if s.loaded then r else .refused .noCartridge

/-- A host call between `runFor` calls (R265, R266). A `blitTo` with a null buffer is a skip whatever its pitch (notes/assumptions/50.md);
`setRtcRegs` without an RTC changes nothing whatever its slots (notes/assumptions/59.md). -/
def State.hostCallBody (s : State) : HostCall → HostResult
  | .load image flags => .next (s.load image flags)
  | .loadBios image => .next (s.loadBios image)
  | .runFor capacity samples replies peer => s.needsCart (s.runFor capacity samples replies peer)
  | .blitTo null pitch =>
    s.needsCart (if null then .next (.pixels [], s) else if pitch < 160 then .refused .badBuffer else .next (.pixels (s.blit pitch), s))
  | .setLayers mask => .next (.nothing, s.setLayers mask)
  | .reset => s.needsCart (.next (.nothing, s.afterReset))
  | .setDmgPaletteColor p i rgb => if p < 3 ∧ i < 4 then .next (.nothing, s.setDmgColor p i rgb) else .refused .outOfRange
  | .setCgbPalette lut => if lut.length = 32768 then .next (.nothing, s.setCgbLut lut) else .refused .outOfRange
  | .setHook kind b => .next (.nothing, s.setHooks (s.host.hooks.set b kind))
  | .setScanlineHook b line =>
    if 0 ≤ line ∧ line ≤ 153 then
      .next (.nothing, s.setHooks { s.host.hooks with scanline := if b then some line.toNat else none })
    else .refused .outOfRange
  | .setTimeMode b => .next (.nothing, { s with host := { s.host with rtcCycleMode := b } })
  | .setRtcDivisorOffset v => .next (.nothing, { s with host := { s.host with rtcDivisorOffset := v } })
  | .setCartBusPullUpTime v => .next (.nothing, { s with host := { s.host with cartPullUpTime := v } })
  | .isCgb => s.needsCart (.next (.boolean (s.model != .dmg), s))
  | .isCgbDmg => s.needsCart (.next (.boolean (s.model == .cgbDmg), s))
  | .isLoaded => .next (.boolean s.loaded, s)
  | .romTitle => s.needsCart (.next (.bytes s.romTitle, s.nextDraw))
  | .saveSavedata n det =>
    s.needsCart (if n = s.saveLength det then .next (.bytes (s.saveData det), s.nextDraw) else .refused .badBuffer)
  | .loadSavedata bytes det =>
    s.needsCart (if bytes.length = s.saveLength det then .next (.nothing, s.loadData bytes det) else .refused .badBuffer)
  | .saveSavedataLength det => s.needsCart (.next (.count (s.saveLength det), s))
  | .getMemoryArea i => .next (.area (s.areaLength i), s)
  | .externalRead a => s.needsCart (.next (.optionalByte (some (s.externalRead a).1), (s.externalRead a).2))
  | .externalWrite a v => s.needsCart (.next (.nothing, s.externalWrite a v))
  | .linkStatus which => s.needsCart (.next (.integer (Config.linkStatus s.draws which), s.nextDraw))
  | .getRegs => s.needsCart (.next (.slots s.registerSlots, s))
  | .setRegs x => s.needsCart (if registerSlotsFit x then .next (.nothing, s.setRegisterSlots x) else .refused .badRegisterValue)
  | .getRtcRegs =>
    s.needsCart (.next (.slots (if s.cart.info.hasRtc then s.rtc.slots else List.replicate 11 0), s))
  | .setRtcRegs x =>
    s.needsCart (if s.cart.info.hasRtc then
        (if rtcSlotsFit x then .next (.nothing, { s with rtc := s.rtc.ofSlots x }) else .refused .badRegisterValue)
      else .next (.nothing, s))
  | .setInterruptAddresses entries =>
    .next (.nothing, { s with host := { s.host with breakpoints := entries.map Breakpoint.unpack } })
  | .getHitInterruptAddress => .next (.integer (hitReturn s.host.hitAddress), s)
  | .saveState => s.needsCart (.next (.stream ⟨s⟩, s))
  | .loadState st => s.needsCart (if s.ownStream st then .next (.nothing, s.restore st) else .refused .foreignState)
  | .peekArea i off =>
    s.needsCart (if (s.areaLength i).any (off < ·) then .next (.optionalByte (s.areaByte i off), s) else .refused .outOfRange)
  | .pokeArea i off v =>
    s.needsCart (if (s.areaLength i).any (off < ·) then .next (.nothing, s.pokeArea i off v) else .refused .outOfRange)

/-- A host call (R266), refused where the refused mark is set, before it or by it (R25). -/
def hostCall (c : HostCall) (s : State) : HostResult :=
  if s.host.refusedMark then .refused .hookMisuse
  else
    match s.hostCallBody c with
    | .next (r, t) => if t.host.refusedMark then .refused .hookMisuse else .next (r, t)
    | .fault e => .fault e
    | .refused e => .refused e

/-- The machine a host finds in a newly constructed engine (R245): as `State.reset` but with no cartridge. -/
def State.fresh : State := { State.reset with loaded := false }

/-- A run is a sequence of host calls (R264): their returns, and the machine at the end. -/
def session : List HostCall → State → Host.Outcome (List HostReturn × State) Fault Refusal
  | [], s => .next ([], s)
  | c :: cs, s =>
    match hostCall c s with
    | .next (r, t) =>
      match session cs t with
      | .next (rs, u) => .next (r :: rs, u)
      | .fault e => .fault e
      | .refused e => .refused e
    | .fault e => .fault e
    | .refused e => .refused e

end Sys2Proof.Machine
end

