-- ==== Sys2Proof/Safety.lean ====
section
/-! DEFINITION. The terms claims are stated in: what a safe step is, the parts of the state a frame compares, the conditions under
which only the CPU acts on memory, the M-cycle table, and the invariant every step keeps. -/

namespace Sys2Proof.Machine

/-- A safe step: it answers a next state. -/
def State.StepsTo (s t : State) : Prop := step s = .next t

/-- The CPU's registers and latches as a frame compares them: all of `cpu` but stallCount, which only VRAM DMA, stalls and the speed
switch change (R207). -/
def State.core (s : State) : Cpu := { s.cpu with stallCount := 0 }

/-- The contents of memory: every store and IE. -/
structure Memory where
  rom : Mem
  vram : Mem
  wram : Mem
  oam : Mem
  hram : Mem
  cartRam : Mem
  ie : Byte
  deriving DecidableEq, Repr

/-- The contents of memory of a machine. -/
def State.memory (s : State) : Memory := ⟨s.rom, s.vram, s.wram, s.oam, s.hram, s.cartRam, s.ie⟩

/-- The special registers only a write, an instruction or the host changes: model and boot state, speed, banks, select lines, LCDC, TMA
and TAC, SC and the DMA registers' settings, and the P_PLATFORM latches. What devices change by themselves (DIV, TIMA, IF, SB, LY and
the RTC) is not among them. -/
structure Control where
  model : Model
  agbRegs : Bool
  bios : Bool
  loaded : Bool
  bootMapped : Bool
  bootDmg : List Byte
  bootCgb : List Byte
  bootRom : List Byte
  cart : Cart
  doubleSpeed : Bool
  speedArmed : Bool
  vbk : BitVec 1
  svbk : BitVec 3
  select : BitVec 2
  lcdc : Byte
  tma : Byte
  tac : BitVec 3
  fast : Bool
  internal : Bool
  dma : Byte
  io : Mem
  ioPowerOn : Bool
  deriving DecidableEq, Repr

/-- The special registers of a machine; of the cartridge, all but the last bus value and its tick. -/
def State.control (s : State) : Control where
  model := s.model
  agbRegs := s.agbRegs
  bios := s.bios
  loaded := s.loaded
  bootMapped := s.bootMapped
  bootDmg := s.bootDmg
  bootCgb := s.bootCgb
  bootRom := s.bootRom
  cart := { s.cart with lastValue := 0, lastTick := 0 }
  doubleSpeed := s.doubleSpeed
  speedArmed := s.speedArmed
  vbk := s.vbk
  svbk := s.svbk
  select := s.joypad.select
  lcdc := s.ppu.lcdc
  tma := s.timer.tma
  tac := s.timer.tac
  fast := s.serial.fast
  internal := s.serial.internal
  dma := s.oamDma.reg
  io := s.io
  ioPowerOn := s.ioPowerOn

/-- Nothing but the CPU acts on memory and the special registers: no OAM DMA and no VRAM DMA is in progress (R228, R229), and the host
makes no calls from hooks (R236). -/
def State.Quiet (s : State) : Prop :=
  s.host.replies = [] ∧ s.oamDma.starting = false ∧ s.oamDma.active = false ∧ s.hdma.active = false ∧ s.hdma.pending = 0

/-- The calls a host may make from a hook of this machine: those R236 lists, on arguments in their domain (R72, R234). -/
def State.allows (s : State) : HookAction → Bool
  | .externalRead _ | .externalWrite _ _ | .getRegs | .getMemoryArea _ | .setLayers _ | .linkStatus _ => true
  | .pokeArea i off _ => (s.areaLength i).any (off < ·)
  | .setDmgPaletteColor p i _ => decide (p < 3) && decide (i < 4)
  | .setCgbPalette lut => lut.length == 32768
  | .otherCall => false

/-- No call the host is still to make from a hook is refused (R25, R236). -/
def State.HooksBehave (s : State) : Prop := ∀ r ∈ s.host.replies, ∀ a ∈ r.actions, s.allows a = true

/-- The byte of a RAM store that an address selects, if it selects one. -/
def State.cellOf (s : State) (a : Addr) : Option (Store × Nat) :=
  match s.region a with
  | .vram off => some (.vram, off)
  | .wram off => some (.wram, off)
  | .oam off => some (.oam, off)
  | .hram off => some (.hram, off)
  | .cart a =>
    match s.cart.window a with
    | .ram off | .nibble off => some (.cartRam, off)
    | .rtc _ | .openBus => none
  | .low _ | .unusable | .io _ | .ie => none

/-- A frame of memory: ROM and every RAM byte outside the given cells read as before, and so does IE unless it is given. -/
def State.MemoryKept (s t : State) (cells : List (Option (Store × Nat))) (ie : Bool) : Prop :=
  (∀ off, t.rom.read off = s.rom.read off) ∧
  (∀ k off, some (k, off) ∉ cells → t.ramByte k off = s.ramByte k off) ∧
  (ie = false → t.ie = s.ie)

/-- An address of WRAM, its echo, or HRAM: plain memory the CPU reaches at any time without OAM DMA (R60, R62, R64). -/
def plainRam (a : Addr) : Bool := (decide (0xC000 ≤ a.toNat) && decide (a.toNat < 0xFE00)) || (decide (0xFF80 ≤ a.toNat) && decide (a.toNat < 0xFFFF))

/-- A write at this address may start a DMA: DMA and HDMA5 (R228, R229). -/
def startsDma (a : Addr) : Bool := a == 0xFF46 || a == 0xFF55

/-- A write at this address reaches a special register: a bank controller, the RTC window or an I/O register. -/
def setsControl (a : Addr) : Bool :=
  decide (a.toNat < 0x8000) || (decide (0xFF00 ≤ a.toNat) && decide (a.toNat < 0xFF80))

/-- The byte of ROM, of the boot ROM or of plain RAM that an address holds, for the addresses whose reads have no side effect on
memory; `none` elsewhere. -/
def State.codeByte (s : State) (a : Addr) : Option Byte :=
  match s.region a with
  | .low a => if s.inBootRom a then s.bootRom[a.toNat]? else s.rom.read (s.cart.romOffset a)
  | .wram off => some (s.ramByte .wram off)
  | .hram off => some (s.ramByte .hram off)
  | .vram _ | .cart _ | .oam _ | .unusable | .io _ | .ie => none

/-- The bytes at `n` consecutive addresses, where each holds one. -/
def State.codeBytes (s : State) (a : Addr) : Nat → Option (List Byte)
  | 0 => some []
  | n + 1 =>
    match s.codeByte a, s.codeBytes (a + 1) n with
    | some v, some vs => some (v :: vs)
    | _, _ => none

/-- A store of one byte at an address by a quiet machine, where it starts no DMA: every byte of memory but the one the address selects
is kept, the special registers are kept unless the address is one, and plain RAM and IE hold the byte. -/
def State.Wrote (s t : State) (a : Addr) (v : Byte) : Prop :=
  s.Quiet → startsDma a = false →
    s.MemoryKept t [s.cellOf a] (a == 0xFFFF) ∧
    (setsControl a = false → t.control = s.control) ∧
    (∀ k off, plainRam a = true → s.cellOf a = some (k, off) → t.ramByte k off = v) ∧
    (a = 0xFFFF → t.ie = v)

/-- Two stores, the first at `a`, the second at `b` in the machine `u` the first leaves, where neither starts a DMA. -/
def State.WroteTwo (s u t : State) (a b : Addr) (v w : Byte) : Prop :=
  s.Quiet → startsDma a = false → startsDma b = false →
    s.MemoryKept t [s.cellOf a, u.cellOf b] (a == 0xFFFF || b == 0xFFFF) ∧
    (setsControl a = false → setsControl b = false → t.control = s.control) ∧
    (∀ k off, plainRam a = true → plainRam b = true → s.cellOf a = some (k, off) → t.ramByte k off = v) ∧
    (∀ k off, plainRam a = true → plainRam b = true → s.cellOf b = some (k, off) → t.ramByte k off = w) ∧
    (a = 0xFFFF → b ≠ 0xFFFF → t.ie = v) ∧ (b = 0xFFFF → t.ie = w)

/-- Memory and the special registers are kept, when nothing but the CPU acts on them. -/
def State.Undisturbed (s t : State) : Prop := s.Quiet → t.memory = s.memory ∧ t.control = s.control

/-- An instruction that loads the byte at an address into a register, in one M-cycle after its fetches. -/
def Loads (i : Instr) (s : State) (r : Reg8) (a : Addr) : Prop :=
  ∃ t, exec i s = .next t ∧ t.core = s.core.setReg r (s.memRead a).1 ∧ t.cycles = s.cycles + 4 ∧ s.Undisturbed t

/-- An instruction that stores a byte at an address, in one M-cycle after its fetches. -/
def Stores (i : Instr) (s : State) (a : Addr) (v : Byte) : Prop :=
  ∃ t, exec i s = .next t ∧ t.core = s.core ∧ t.cycles = s.cycles + 4 ∧ s.Wrote t a v

/-- What an instruction that computes in A leaves: A, the four flags, bits 3:0 of F 0, and every other register and latch as before. -/
def State.Computed (s t : State) (a : Byte) (z n h c : Bool) : Prop :=
  t.cpu.a = a ∧ t.flagZ = z ∧ t.flagN = n ∧ t.flagH = h ∧ t.flagC = c ∧ t.cpu.f &&& 0x0F = 0 ∧
  { t.core with a := s.cpu.a, f := s.cpu.f } = s.core

/-- What an instruction that writes only flags leaves. -/
def State.Flagged (s t : State) (z n h c : Bool) : Prop := s.Computed t s.cpu.a z n h c

/-- An accumulator operation in its three forms (R150): what it leaves for the operand value of a register, an immediate or the byte at
HL. The first two take no M-cycle after their fetches and change nothing but A and F. -/
def AluForms (op : AluOp) (s : State) (post : State → Byte → Prop) : Prop :=
  (∀ r, ∃ t, exec (.alu op (.reg r)) s = .next t ∧ t = { s with cpu := { s.cpu with a := t.cpu.a, f := t.cpu.f } } ∧
    post t (s.reg r)) ∧
  (∀ n, ∃ t, exec (.aluImm op n) s = .next t ∧ t = { s with cpu := { s.cpu with a := t.cpu.a, f := t.cpu.f } } ∧ post t n) ∧
  (∃ t, exec (.alu op .atHL) s = .next t ∧ t.cycles = s.cycles + 4 ∧ s.Undisturbed t ∧ post t (s.memRead s.hl).1)

/-- An operation on a register (no M-cycle after its fetches; only the register and F change) or on the byte at HL (a read and a write
of it): `res` gives the result and `z`, `n`, `h`, `c` the flags for the operand's value (R159, R160, R173). -/
def ModifyForms (i : Operand8 → Instr) (s : State) (res : Byte → Byte) (z n h c : Byte → Bool) : Prop :=
  (∀ r, ∃ t, exec (i (.reg r)) s = .next t ∧ t = { s with cpu := { s.cpu.setReg r (res (s.reg r)) with f := t.cpu.f } } ∧
    t.flagZ = z (s.reg r) ∧ t.flagN = n (s.reg r) ∧ t.flagH = h (s.reg r) ∧ t.flagC = c (s.reg r) ∧ t.cpu.f &&& 0x0F = 0) ∧
  (∃ t, exec (i .atHL) s = .next t ∧ { t.core with f := s.cpu.f } = s.core ∧ t.cycles = s.cycles + 8 ∧
    s.Wrote t s.hl (res (s.memRead s.hl).1) ∧ t.flagZ = z (s.memRead s.hl).1 ∧ t.flagN = n (s.memRead s.hl).1 ∧
    t.flagH = h (s.memRead s.hl).1 ∧ t.flagC = c (s.memRead s.hl).1 ∧ t.cpu.f &&& 0x0F = 0)

/-- RES and SET in their two forms (R183, R184): no flag changes. -/
def BitWriteForms (i : Operand8 → Instr) (s : State) (res : Byte → Byte) : Prop :=
  (∀ r, exec (i (.reg r)) s = .next { s with cpu := s.cpu.setReg r (res (s.reg r)) }) ∧
  (∃ t, exec (i .atHL) s = .next t ∧ t.core = s.core ∧ t.cycles = s.cycles + 8 ∧ s.Wrote t s.hl (res (s.memRead s.hl).1))

/-- The CB rotates and shifts on numbers (R174 to R181): the result for an operand value and the carry flag. -/
def shiftNumber (op : ShiftOp) (v c : Nat) : Nat :=
  match op with
  | .rlc => v * 2 % 256 + v / 128
  | .rrc => v / 2 + v % 2 * 128
  | .rl => v * 2 % 256 + c
  | .rr => v / 2 + c * 128
  | .sla => v * 2 % 256
  | .sra => v / 2 + v / 128 * 128
  | .swap => v % 16 * 16 + v / 16
  | .srl => v / 2

/-- The bit a CB rotate or shift moves into C (R174 to R181): bit 7 or bit 0 of the operand, and 0 for SWAP. -/
def shiftCarry (op : ShiftOp) (v : Nat) : Nat :=
  match op with
  | .rlc | .rl | .sla => v / 128
  | .rrc | .rr | .sra | .srl => v % 2
  | .swap => 0

/-- The byte a pop reads first, the low byte (R146). -/
def State.popLo (s : State) : Byte := (s.memRead s.cpu.sp).1

/-- The byte a pop reads second, the high byte (R146). -/
def State.popHi (s : State) : Byte := (s.popByte.2.memRead (s.cpu.sp + 1)).1

/-- What a pop reads where the stack lies in ROM or plain RAM of a quiet machine: the bytes at SP and SP + 1. -/
def State.PopsMemory (s : State) : Prop :=
  s.Quiet → (∀ v, s.codeByte s.cpu.sp = some v → s.popLo = v) ∧ (∀ v, s.codeByte (s.cpu.sp + 1) = some v → s.popHi = v)

/-- `IE & IF & 0x1F` (R119). -/
def State.pendingByte (s : State) : Byte := s.ie &&& s.irq.toByte &&& 0x1F

/-- DAA on numbers (R161): A after it, and C after it, for A, N, H, C before it. -/
def daaNumber (a : Nat) (n h c : Bool) : Nat × Bool :=
  let adj := (if h || (!n && decide (a % 16 > 9)) then 6 else 0) + (if c || (!n && decide (a > 0x99)) then 0x60 else 0)
  if n then ((a + 256 - adj) % 256, c) else ((a + adj) % 256, c || decide (a > 0x99))

/-- A number below 100 as two decimal digits. -/
def bcd (x : Nat) : Byte := BitVec.ofNat 8 (x / 10 * 16 + x % 10)

/-- The CPU runs instructions: a cartridge is loaded, no call is refused, and no latch or stall holds the CPU (R119). -/
def State.Running (s : State) : Prop :=
  s.loaded = true ∧ s.host.refusedMark = false ∧ s.cpu.lockedUp = false ∧ s.cpu.stallCount = 0 ∧ s.cpu.stopped = false ∧
  s.cpu.halted = false

/-- The next step runs an instruction and not a dispatch (R119). -/
def State.RunsInstr (s : State) : Prop := s.Running ∧ (s.cpu.ime && s.pending) = false

/-- The instruction the next step runs, when it runs one: what the fetched bytes decode to. -/
def State.nextInstr (s : State) : Option Instr :=
  match decode s.startInstr.fetchInstr.1 with
  | .ok (i, _) => some i
  | .error _ => none

/-- The M-cycle counts of the base map, taken branches, by opcode (R275). The entry of 0xCB is not used. -/
def baseCycles : List Nat :=
  [1, 3, 2, 2, 1, 1, 2, 1, 5, 2, 2, 2, 1, 1, 2, 1] ++
  [2, 3, 2, 2, 1, 1, 2, 1, 3, 2, 2, 2, 1, 1, 2, 1] ++
  [3, 3, 2, 2, 1, 1, 2, 1, 3, 2, 2, 2, 1, 1, 2, 1] ++
  [3, 3, 2, 2, 3, 3, 3, 1, 3, 2, 2, 2, 1, 1, 2, 1] ++
  [1, 1, 1, 1, 1, 1, 2, 1, 1, 1, 1, 1, 1, 1, 2, 1] ++
  [1, 1, 1, 1, 1, 1, 2, 1, 1, 1, 1, 1, 1, 1, 2, 1] ++
  [1, 1, 1, 1, 1, 1, 2, 1, 1, 1, 1, 1, 1, 1, 2, 1] ++
  [2, 2, 2, 2, 2, 2, 1, 2, 1, 1, 1, 1, 1, 1, 2, 1] ++
  [1, 1, 1, 1, 1, 1, 2, 1, 1, 1, 1, 1, 1, 1, 2, 1] ++
  [1, 1, 1, 1, 1, 1, 2, 1, 1, 1, 1, 1, 1, 1, 2, 1] ++
  [1, 1, 1, 1, 1, 1, 2, 1, 1, 1, 1, 1, 1, 1, 2, 1] ++
  [1, 1, 1, 1, 1, 1, 2, 1, 1, 1, 1, 1, 1, 1, 2, 1] ++
  [5, 3, 4, 4, 6, 4, 2, 4, 5, 4, 4, 0, 6, 6, 2, 4] ++
  [5, 3, 4, 1, 6, 4, 2, 4, 5, 4, 4, 1, 6, 1, 2, 4] ++
  [3, 3, 2, 1, 1, 4, 2, 4, 4, 1, 4, 1, 1, 1, 2, 4] ++
  [3, 3, 2, 1, 1, 4, 2, 4, 3, 2, 4, 1, 1, 1, 2, 4]

/-- The M-cycle counts of an untaken conditional branch, by opcode (R275). -/
def untakenCycles (op : Byte) : Nat :=
  if [0x20, 0x28, 0x30, 0x38].contains op then 2
  else if [0xC0, 0xC8, 0xD0, 0xD8].contains op then 2
  else 3

/-- The conditional branches: their conditions (R102, R187, R190, R192, R194). -/
def branchCond (op : Byte) : Option Cond :=
  if [0x20, 0xC0, 0xC2, 0xC4].contains op then some .nz
  else if [0x28, 0xC8, 0xCA, 0xCC].contains op then some .z
  else if [0x30, 0xD0, 0xD2, 0xD4].contains op then some .nc
  else if [0x38, 0xD8, 0xDA, 0xDC].contains op then some .c
  else none

/-- The M-cycle count of a CB row by its second byte (R275): 2, with (HL) 4, and 3 for BIT. -/
def cbCycles (op : Byte) : Nat :=
  if op.toNat % 8 = 6 then (if 0x40 ≤ op.toNat ∧ op.toNat < 0x80 then 3 else 4) else 2

/-- The M-cycles of an instruction by its encoding, the branch of a conditional taken or not (R275, R121). -/
def tableCycles (taken : Cond → Bool) : List Byte → Nat
  | 0xCB :: op :: _ => cbCycles op
  | op :: _ =>
    match branchCond op with
    | some cc => if taken cc then baseCycles.getD op.toNat 0 else untakenCycles op
    | none => baseCycles.getD op.toNat 0
  | [] => 0

/-- The ROM bank registers with a zero check never hold 0 (R78, R80, R81). -/
def Cart.banksNonZero (c : Cart) : Prop :=
  (c.info.kind = .mbc1 → c.bank1 ≠ 0) ∧ (c.info.kind = .mbc2 ∨ c.info.kind = .mbc3 → c.romb ≠ 0)

/-- Every store is in canonical form. -/
def State.storesWf (s : State) : Prop :=
  s.rom.wf = true ∧ s.vram.wf = true ∧ s.wram.wf = true ∧ s.oam.wf = true ∧ s.hram.wf = true ∧ s.cartRam.wf = true ∧
  s.io.wf = true

/-- The part of the invariant about the CPU. -/
structure Cpu.Inv (c : Cpu) : Prop where
  /-- Bits 3:0 of F are 0 (R34). -/
  flags : c.f &&& 0x0F = 0
  /-- At most one of halted, stopped and lockedUp is 1 (R40). -/
  oneLatch : (c.halted && c.stopped) = false ∧ (c.halted && c.lockedUp) = false ∧ (c.stopped && c.lockedUp) = false
  /-- The halt bug is armed only while the CPU runs (R202). -/
  haltBug : c.haltBug = true → c.halted = false ∧ c.stopped = false ∧ c.lockedUp = false

/-- The part of the invariant about the devices and memory. -/
structure State.DataInv (s : State) : Prop where
  /-- OAM DMA moves 160 bytes, and does not move in the M-cycle of its start (R228). -/
  oamDma : (s.oamDma.active = true → s.oamDma.starting = false) ∧
    (s.oamDma.active = true ∨ s.oamDma.starting = true → s.oamDma.index < 160)
  /-- An HBlank transfer has a block left (R229), and at most 128. -/
  hdma : (s.hdma.active = true → 0 < s.hdma.blocks) ∧ s.hdma.blocks ≤ 128
  /-- A serial transfer has at most 8 bits (R226). -/
  serial : s.serial.bits < 8
  /-- The ROM bank registers with a zero check (R78, R80, R81). -/
  banks : s.cart.banksNonZero
  /-- The stores are in canonical form. -/
  stores : s.storesWf

/-- The clock at a step boundary: M-cycles begin at an even base-tick count (R257), every line at an even frame position within the
frame (R231). -/
def State.EvenClock (s : State) : Prop :=
  s.baseTicks % 2 = 0 ∧ s.ppu.lineTick % 2 = 0 ∧ s.ppu.lineTick < Config.frameTicks

/-- A frame event of the current call lies before a produced sample (R260). -/
def State.EventInRun (s : State) : Prop := ∀ f, s.host.frameOffset = some f → f < s.host.produced

/-- The invariant of the machine at a step boundary; every primitive adds 4 to the cycle counter (R41). -/
structure State.Inv (s : State) : Prop where
  cpu : s.cpu.Inv
  data : s.DataInv
  clock : s.EvenClock
  cycles : s.cycles % 4 = 0
  event : s.EventInRun
  /-- P_ROM_BANKS is at least 2 (R13). -/
  romBanks : 2 ≤ s.cart.info.romBanks

end Sys2Proof.Machine
end

