-- ==== Sys2Proof/WellFormed.lean ====
section
/-! DEFINITION. What is well-formed. Every operand of `Instr` has a type of exactly its field's width (30_encoding.md R99 to R110), so
no term of `Instr` is ill-formed; a string of bytes is well-formed as one instruction when it has as many bytes as its first byte
asks for (R113). -/

namespace Sys2Proof

/-- A byte string is one instruction: at least one byte, and as many as R113 gives its first byte. -/
def bytesWellFormed : List Byte → Bool
  | [] => false
  | op :: rest => rest.length + 1 == instrLength op

/-- An instruction is well-formed when its encoding is; `Laws.RoundTrip` shows that every instruction is (no operand is out of range). -/
def Instr.wf (i : Instr) : Bool := bytesWellFormed (encode i)

end Sys2Proof
end

