-- ==== Sys2Proof/Certificates/Slice0/Obligations.lean ====
section
/-! DEFINITION. The statements for the provers. Each docstring names the rule of spec/ it formalises, or what it is derived from. -/

open Sys2Proof Sys2Proof.Machine

/-! Encoding. -/

/-- Derived from 30_encoding.md R98, R111, R112 and R113: every instruction's encoding is as long as its first byte asks for, and decodes
to the instruction with every operand as it was, whatever bytes follow. -/
def Obligations.DecodeEncode : Prop :=
  ∀ (i : Instr) (rest : List Byte),
    i.wf = true ∧ (encode i).length = instrLength ((encode i).headD 0) ∧ decode (encode i ++ rest) = .ok (i, rest)

/-- Derived from 30_encoding.md R111, R112 and R113: the bytes a decoding uses are the encoding of the instruction it gives, so no two
byte strings mean one instruction. -/
def Obligations.EncodeDecode : Prop :=
  ∀ (bs rest : List Byte) (i : Instr), decode bs = .ok (i, rest) → bs = encode i ++ rest

/-- Derived from 30_encoding.md R113, R114 and R120 and 46_system.md R208: with as many bytes as its first byte asks for, every byte
string decodes; the eleven illegal rows are instructions, and they lock the CPU up. That a first byte with too few bytes after it is
refused as missingOperand is the model's choice (notes/assumptions/53.md). -/
def Obligations.DecodeTotal : Prop :=
  (∀ (op : Byte) (tl : List Byte), instrLength op ≤ tl.length + 1 →
    ∃ i, decode (op :: tl) = .ok (i, tl.drop (instrLength op - 1))) ∧
  (∀ (op : Byte) (tl : List Byte), tl.length + 1 < instrLength op → decode (op :: tl) = .error .missingOperand) ∧
  (∀ op ∈ [0xD3, 0xDB, 0xDD, 0xE3, 0xE4, 0xEB, 0xEC, 0xED, 0xF4, 0xFC, 0xFD],
    ∃ k, decode [(op : Byte)] = .ok (Instr.illegal k, [])) ∧
  (∀ k : IllegalOp, ∀ s : State, exec (Instr.illegal k) s = .next { s with cpu := { s.cpu with lockedUp := true } })

/-- Derived from the encodings of R123, R124, R142, R151, R165, R173, R182, R190, R196 and R204: words written out from them. -/
def Obligations.DecodeWords : Prop :=
  decode [0b01000001] = .ok (.ldReg .b .c, []) ∧
  decode [0b00111110, 0x5A] = .ok (.ldImm .a 0x5A, []) ∧
  decode [0b00110001, 0xFE, 0xFF] = .ok (.ldPair .sp 0xFFFE, []) ∧
  decode [0b10000000] = .ok (.alu .add (.reg .b), []) ∧
  decode [0b00001001] = .ok (.addHL .bc, []) ∧
  decode [0b11001011, 0b10011110] = .ok (.res .i3 .atHL, []) ∧
  decode [0b11001011, 0b01111111] = .ok (.bit .i7 (.reg .a), []) ∧
  decode [0b00100000, 0xFD] = .ok (.jrCond .nz 0xFD, []) ∧
  decode [0b11001111] = .ok (.rst .i1, []) ∧
  decode [0b00010000, 0x00] = .ok (.stop 0x00, [])

/-! The step. -/

/-- Derived from 30_encoding.md R119: a step that runs an instruction is `exec` of what the fetched bytes decode to, in the state after
the fetches; it is refused only where a hook made a call it must not (00_scope.md R25; notes/assumptions/38.md). -/
def Obligations.StepRunsDecoded : Prop :=
  ∀ (s : State) (i : Instr) (rest : List Byte), s.RunsInstr → decode s.startInstr.fetchInstr.1 = .ok (i, rest) →
    step s = unlessMisused (exec i s.startInstr.fetchInstr.2) ∧
    (s.HooksBehave → step s = exec i s.startInstr.fetchInstr.2)

/-- Derived from 30_encoding.md R113 and R119, 10_state.md R33 and R37, 20_memory.md R95: when the bytes at PC in ROM or plain RAM are
the encoding of an instruction, the step of a quiet machine is `exec` of it in a state that differs by PC behind it, one M-cycle per byte,
and the EI delay's latches. -/
def Obligations.StepRunsMemory : Prop :=
  ∀ (s : State) (i : Instr), s.RunsInstr → s.Quiet → s.cpu.haltBug = false →
    s.codeBytes s.cpu.pc (encode i).length = some (encode i) →
    ∃ t, step s = exec i t ∧
      t.core = { s.core with
        pc := s.cpu.pc + BitVec.ofNat 16 (encode i).length
        imeBefore := s.cpu.ime, ime := s.cpu.ime || s.cpu.imePending, imePending := false } ∧
      t.cycles = s.cycles + 4 * (encode i).length ∧ t.memory = s.memory ∧ t.control = s.control

/-- Derived from 60_exceptions.md R209 and 30_encoding.md R120: with a cartridge loaded and hooks that behave, no instruction and no access
faults or is refused. The second and third parts are the model's choice (notes/assumptions/38.md): a step in which a hook makes a call it
must not, and every step of a machine with the refused mark, answers a refusal; 00_scope.md R25 sets the mark and gives such a run no
meaning. -/
def Obligations.StepAnswers : Prop :=
  ∀ s : State, s.loaded = true →
    (s.host.refusedMark = false → s.HooksBehave → ∃ t, step s = .next t ∧ t.HooksBehave) ∧
    (s.host.refusedMark = false → (∃ t, step s = .next t ∧ t.host.refusedMark = false) ∨ step s = .refused .hookMisuse) ∧
    (s.host.refusedMark = true → step s = .refused .hookMisuse)

/-- Derived from 00_scope.md R13, 10_state.md R34, R40 and R41, 20_memory.md R78 and R80, 60_exceptions.md R226, R228, R229 and R231,
70_reset_and_hazards.md R257 and R260, and the canonical form of the stores (notes/assumptions/4.md): every step keeps the invariant. -/
def Obligations.InvStep : Prop := ∀ s t : State, s.Inv → step s = .next t → t.Inv

/-- Derived from 70_reset_and_hazards.md R250 to R252: the invariant holds at reset. -/
def Obligations.InvReset : Prop := State.reset.Inv

/-- Derived from 70_reset_and_hazards.md R249 to R255: `reset()` in every model and boot mode gives a machine with the invariant. -/
def Obligations.InvAfterReset : Prop := ∀ s : State, s.Inv → s.afterReset.Inv

/-- Derived from 30_encoding.md R121, with the counts of 70_reset_and_hazards.md R275: the time of every instruction step, taken and untaken. -/
def Obligations.InstrCycles : Prop :=
  ∀ (s : State) (i : Instr), s.RunsInstr → s.HooksBehave → s.nextInstr = some i →
    ∃ t, step s = .next t ∧ t.cycles = s.cycles + 4 * tableCycles s.cond (encode i)

/-- Derived from 70_reset_and_hazards.md R263, R258 and R259: every step takes 1 to 7 M-cycles and each produces one sample or two; a
frame event of the step lies within the samples it produced. -/
def Obligations.StepBounds : Prop :=
  ∀ s t : State, s.Inv → step s = .next t →
    ∃ n, 1 ≤ n ∧ n ≤ 7 ∧ t.cycles = s.cycles + 4 * n ∧
      s.host.produced + n ≤ t.host.produced ∧ t.host.produced ≤ s.host.produced + 2 * n ∧
      (s.host.frameOffset = none → ∀ f, t.host.frameOffset = some f → s.host.produced ≤ f ∧ f < t.host.produced)

/-- Derived from 70_reset_and_hazards.md R262 and R263: the loop of every `runFor` call ends in a state in which a stopping condition
holds, overshoots by at most 13 samples, and ends at most 14 samples after the frame event it reports. -/
def Obligations.RunForBounds : Prop :=
  ∀ (s t : State) (requested : Nat) (replies : List HookReply) (peer : Peer), s.Inv → s.run requested replies peer = .next t →
    t.runStops requested = true ∧
    t.host.produced ≤ requested + 13 ∧
    (t.host.frameOffset = none → t.host.stopRequested = false → requested ≤ t.host.produced) ∧
    (∀ f, t.host.frameOffset = some f → f < t.host.produced ∧ t.host.produced ≤ f + 14)

/-! Waiting. -/

/-- Derived from 46_system.md R208 and 60_exceptions.md R211: a locked-up CPU stays locked up for any number of steps, one M-cycle each,
no register or latch of it changing; the host makes no calls from hooks. -/
def Obligations.LockedForever : Prop :=
  ∀ (n : Nat) (s : State), s.loaded = true → s.host.refusedMark = false → s.host.replies = [] → s.cpu.lockedUp = true →
    ∃ t, Host.Core.run Sys2Proof.core n s = .next t ∧ t.core = s.core ∧ t.cycles = s.cycles + 4 * n

/-- Derived from 46_system.md R204 and R207 and 70_reset_and_hazards.md R259: a stall step is one M-cycle that decrements stallCount;
it is one `Internal()`, but in stop mode the system counter stands still in it. -/
def Obligations.StallStep : Prop :=
  ∀ s : State, s.loaded = true → s.host.refusedMark = false → s.HooksBehave → s.cpu.lockedUp = false → s.cpu.stallCount ≠ 0 →
    let u := s.deviceCycle (!s.cpu.stopped)
    ∃ t, step s = .next t ∧ t = { u with cpu := { u.cpu with stallCount := u.cpu.stallCount - 1 } } ∧
      t.core = s.core ∧ t.cycles = s.cycles + 4 ∧
      (s.cpu.stopped = false → u = s.internal) ∧
      (s.Quiet → t.cpu.stallCount = s.cpu.stallCount - 1 ∧ t.memory = s.memory ∧ t.control = s.control ∧
        t.timer.sysCounter = (if s.cpu.stopped then s.timer.sysCounter else s.timer.sysCounter + 4))

/-- Derived from 46_system.md R201 and R203 and 30_encoding.md R119: a halted CPU waits one M-cycle at a time while `IE & IF & 0x1F` is 0;
otherwise, whatever IME is, it wakes after one M-cycle and the same step dispatches or runs an instruction. -/
def Obligations.HaltedStep : Prop :=
  ∀ s : State, s.loaded = true → s.host.refusedMark = false → s.HooksBehave → s.cpu.lockedUp = false → s.cpu.stallCount = 0 →
    s.cpu.stopped = false → s.cpu.halted = true →
    (s.pendingByte = 0 → ∃ t, step s = .next t ∧ t.core = s.core ∧ t.cycles = s.cycles + 4 ∧ s.Undisturbed t) ∧
    (s.pendingByte ≠ 0 → ∃ u, step s = u.atBoundary ∧ u.core = { s.core with halted := false } ∧
      u.cycles = s.cycles + 4 ∧ s.Undisturbed u)

/-- Derived from 46_system.md R204 and 60_exceptions.md R225 and R243: in stop mode a step polls the input and takes one M-cycle in which
the system counter stands still. It ends stop mode when a selected line is pressed, also one that was pressed before (the model's choice,
notes/assumptions/19.md), and changes no other latch or register. Without an input-poll hook stop mode does not end. -/
def Obligations.StopModeStep : Prop :=
  ∀ s : State, s.loaded = true → s.host.refusedMark = false → s.HooksBehave → s.cpu.lockedUp = false → s.cpu.stallCount = 0 →
    s.cpu.stopped = true →
    (∀ (m : Byte) (rs : List HookReply), s.host.hooks.inputPoll = true → s.host.replies = ⟨m, []⟩ :: rs →
      ∃ t, step s = .next t ∧ t.cycles = s.cycles + 4 ∧
        t.core = { s.core with stopped := decide ((if s.joypad.select.getLsbD 1 then 0 else m.toNat % 16) = 0 ∧
          (if s.joypad.select.getLsbD 0 then 0 else m.toNat / 16) = 0) } ∧
        (rs = [] → t.timer.sysCounter = s.timer.sysCounter)) ∧
    (s.host.hooks.inputPoll = false →
      ∃ t, step s = .next t ∧ t.cycles = s.cycles + 4 ∧ t.core = s.core ∧
        (s.host.replies = [] → t.timer.sysCounter = s.timer.sysCounter))

/-! Reset. -/

/-- 70_reset_and_hazards.md R250 and R251: the CPU after `reset()`, row by row of the table. -/
def Obligations.ResetRegisters : Prop :=
  ∀ s : State,
    (s.bios = false → s.model = .dmg → s.afterReset.registerSlots = [0x0100, 0xFFFE, 0x01, 0x00, 0x13, 0x00, 0xD8, 0xB0, 0x01, 0x4D]) ∧
    (s.bios = false → s.model = .cgb → s.agbRegs = false →
      s.afterReset.registerSlots = [0x0100, 0xFFFE, 0x11, 0x00, 0x00, 0xFF, 0x56, 0x80, 0x00, 0x0D]) ∧
    (s.bios = false → s.model = .cgb → s.agbRegs = true →
      s.afterReset.registerSlots = [0x0100, 0xFFFE, 0x11, 0x01, 0x00, 0xFF, 0x56, 0x00, 0x00, 0x0D]) ∧
    (s.bios = false → s.model = .cgbDmg → s.agbRegs = false →
      s.afterReset.registerSlots = [0x0100, 0xFFFE, 0x11, 0x00, 0x00, 0x00, 0x08, 0x80, 0x00, 0x7C]) ∧
    (s.bios = false → s.model = .cgbDmg → s.agbRegs = true →
      s.afterReset.registerSlots = [0x0100, 0xFFFE, 0x11, 0x01, 0x00, 0x00, 0x08, 0x00, 0x00, 0x7C]) ∧
    (s.bios = true → s.afterReset.registerSlots = [0, 0, 0, 0, 0, 0, 0, 0, 0, 0]) ∧
    s.afterReset.cpu.ime = false ∧ s.afterReset.cpu.imePending = false ∧ s.afterReset.cpu.halted = false ∧
    s.afterReset.cpu.haltBug = false ∧ s.afterReset.cpu.stopped = false ∧ s.afterReset.cpu.lockedUp = false ∧
    s.afterReset.cpu.stallCount = 0 ∧ s.afterReset.ie = 0 ∧ s.afterReset.doubleSpeed = false

/-- Derived from 70_reset_and_hazards.md R252, R253 and R254 (and 10_state.md R39, R42): what the registers of the devices read as after
`reset()` in each model, and that the machine of `State.reset`, which is the model's choice of a machine after reset
(notes/assumptions/2.md), is one that `reset()` leaves as it is. -/
def Obligations.ResetDevices : Prop :=
  (∀ s : State, let reads := fun a : Addr => (s.afterReset.resolveRead a).1
    reads 0xFF0F = (if s.bios then 0xE0 else 0xE1) ∧
    reads 0xFF00 = 0xCF ∧
    reads 0xFF01 = 0x00 ∧
    reads 0xFF02 = (match s.model, s.bios with
      | .dmg, _ => 0x7E
      | .cgb, false => 0x7F
      | .cgb, true => 0x7C
      | .cgbDmg, false => 0x7F
      | .cgbDmg, true => 0x7E) ∧
    reads 0xFF05 = 0x00 ∧ reads 0xFF06 = 0x00 ∧ reads 0xFF07 = 0xF8 ∧ reads 0xFF44 = 0x00 ∧
    s.afterReset.ppu.lcdc = (if s.bios then 0x00 else 0x91) ∧
    reads 0xFF46 = (if s.bios = false ∧ s.model = .dmg then 0xFF else 0x00) ∧
    reads 0xFF4D = (if s.model = .cgb then 0x7E else 0xFF) ∧ reads 0xFF4F = (if s.model = .cgb then 0xFE else 0xFF) ∧
    reads 0xFF55 = 0xFF ∧ reads 0xFF70 = (if s.model = .cgb then 0xF8 else 0xFF) ∧
    reads 0xFFFF = 0x00 ∧
    s.afterReset.bootMapped = s.bios ∧
    (s.bios = true → s.afterReset.timer.sysCounter = 0) ∧
    (s.bios = false → s.model = .dmg → s.afterReset.timer.sysCounter = 0xABCC ∧ reads 0xFF04 = 0xAB)) ∧
  State.reset.afterReset = State.reset

/-- Derived from 70_reset_and_hazards.md R246 and R249: what `reset()` keeps, the boot ROM image it takes over, and the reset values of
the bank controllers (20_memory.md R76 to R82) and of the clock. -/
def Obligations.ResetKeeps : Prop :=
  ∀ s : State,
    s.afterReset.rom = s.rom ∧ s.afterReset.cart.info = s.cart.info ∧ s.afterReset.cartRam = s.cartRam ∧ s.afterReset.rtc = s.rtc ∧
    s.afterReset.bootDmg = s.bootDmg ∧ s.afterReset.bootCgb = s.bootCgb ∧ s.afterReset.host.hooks = s.host.hooks ∧
    s.afterReset.bootRom = s.storedBootRom ∧
    s.afterReset.host.breakpoints = s.host.breakpoints ∧ s.afterReset.host.palettes = s.host.palettes ∧
    s.afterReset.host.layerMask = s.host.layerMask ∧
    s.afterReset.host.rtcCycleMode = s.host.rtcCycleMode ∧ s.afterReset.host.rtcDivisorOffset = s.host.rtcDivisorOffset ∧
    s.afterReset.host.cartPullUpTime = s.host.cartPullUpTime ∧ s.afterReset.host.lastFrame = s.host.lastFrame ∧
    s.afterReset.cart.ramEnabled = false ∧ s.afterReset.cart.rom0Bank = 0 ∧
    s.afterReset.cart.romxBank = 1 % s.cart.info.romBanks ∧
    (0 < s.cart.info.ramBanks → s.cart.info.kind ≠ .mbc2 → s.afterReset.cart.ramBank = some 0) ∧
    s.afterReset.cycles = 0 ∧ s.afterReset.ppu.lineTick = 0 ∧ s.afterReset.host.hitAddress = none ∧
    s.afterReset.host.stopRequested = false ∧
    (∀ k off, k ≠ .cartRam → s.afterReset.ramByte k off = Config.powerOnRam k s.model off)

/-! 8-bit and 16-bit loads. -/

/-- 40_load8.md R123 and R124, 41_load16.md R142: register and immediate loads. Nothing else in the machine changes. -/
def Obligations.LoadRegister : Prop :=
  ∀ s : State,
    (∀ dst src, ∃ t, exec (.ldReg dst src) s = .next t ∧ t.reg dst = s.reg src ∧ (∀ r, r ≠ dst → t.reg r = s.reg r) ∧
      t = { s with cpu := s.cpu.setReg dst (s.reg src) }) ∧
    (∀ dst n, ∃ t, exec (.ldImm dst n) s = .next t ∧ t.reg dst = n ∧ (∀ r, r ≠ dst → t.reg r = s.reg r) ∧
      t = { s with cpu := s.cpu.setReg dst n }) ∧
    (∀ nn, exec (.ldPair .bc nn) s = .next { s with cpu := { s.cpu with b := nn.extractLsb' 8 8, c := nn.extractLsb' 0 8 } } ∧
      exec (.ldPair .de nn) s = .next { s with cpu := { s.cpu with d := nn.extractLsb' 8 8, e := nn.extractLsb' 0 8 } } ∧
      exec (.ldPair .hl nn) s = .next { s with cpu := { s.cpu with h := nn.extractLsb' 8 8, l := nn.extractLsb' 0 8 } } ∧
      exec (.ldPair .sp nn) s = .next { s with cpu := { s.cpu with sp := nn } })

/-- 40_load8.md R125, R128, R129, R132, R134 and R136: loads of a byte from memory; where the address lies in ROM or plain RAM of a quiet
machine, the byte is the one stored there. -/
def Obligations.LoadFromMemory : Prop :=
  ∀ s : State,
    (∀ r, Loads (.ldFromHL r) s r (s.cpu.h ++ s.cpu.l)) ∧
    Loads .ldAAtBC s .a (s.cpu.b ++ s.cpu.c) ∧
    Loads .ldAAtDE s .a (s.cpu.d ++ s.cpu.e) ∧
    (∀ nn, Loads (.ldAAtImm16 nn) s .a nn) ∧
    Loads .ldAAtC s .a (0xFF00 ||| s.cpu.c.setWidth 16) ∧
    (∀ n : Byte, Loads (.ldhAAtImm n) s .a (0xFF00 ||| n.setWidth 16)) ∧
    (s.Quiet → ∀ a v, s.codeByte a = some v → (s.memRead a).1 = v)

/-- 40_load8.md R126, R127, R130, R131, R133, R135 and R137: stores of a byte. -/
def Obligations.StoreToMemory : Prop :=
  ∀ s : State,
    (∀ r, Stores (.ldToHL r) s (s.cpu.h ++ s.cpu.l) (s.reg r)) ∧
    (∀ n, Stores (.ldAtHLImm n) s (s.cpu.h ++ s.cpu.l) n) ∧
    Stores .ldAtBCA s (s.cpu.b ++ s.cpu.c) s.cpu.a ∧
    Stores .ldAtDEA s (s.cpu.d ++ s.cpu.e) s.cpu.a ∧
    (∀ nn, Stores (.ldAtImm16A nn) s nn s.cpu.a) ∧
    Stores .ldAtCA s (0xFF00 ||| s.cpu.c.setWidth 16) s.cpu.a ∧
    (∀ n : Byte, Stores (.ldhAtImmA n) s (0xFF00 ||| n.setWidth 16) s.cpu.a)

/-- 40_load8.md R138 to R141: auto-increment and auto-decrement loads; HL wraps modulo 2^16 and F is not touched. -/
def Obligations.LoadStoreStep : Prop :=
  ∀ (s : State), let hl : Addr := s.cpu.h ++ s.cpu.l
    (∃ t, exec .ldAAtHLInc s = .next t ∧ t.core = (s.core.setReg .a (s.memRead hl).1).setPair .hl (hl + 1) ∧
      t.cycles = s.cycles + 4 ∧ s.Undisturbed t) ∧
    (∃ t, exec .ldAAtHLDec s = .next t ∧ t.core = (s.core.setReg .a (s.memRead hl).1).setPair .hl (hl - 1) ∧
      t.cycles = s.cycles + 4 ∧ s.Undisturbed t) ∧
    (∃ t, exec .ldAtHLIncA s = .next t ∧ t.core = s.core.setPair .hl (hl + 1) ∧ t.cycles = s.cycles + 4 ∧ s.Wrote t hl s.cpu.a) ∧
    (∃ t, exec .ldAtHLDecA s = .next t ∧ t.core = s.core.setPair .hl (hl - 1) ∧ t.cycles = s.cycles + 4 ∧ s.Wrote t hl s.cpu.a)

/-- 41_load16.md R145: PUSH. The bytes go to SP - 1 and SP - 2, high byte first; F is pushed with its low nibble 0. -/
def Obligations.PushPair : Prop :=
  ∀ (s : State) (q : StackPair),
    let v : Addr := match q with
      | .bc => s.cpu.b ++ s.cpu.c
      | .de => s.cpu.d ++ s.cpu.e
      | .hl => s.cpu.h ++ s.cpu.l
      | .af => s.cpu.a ++ (s.cpu.f &&& 0xF0)
    ∃ t, exec (.push q) s = .next t ∧ t.core = { s.core with sp := s.cpu.sp - 2 } ∧ t.cycles = s.cycles + 12 ∧
      s.WroteTwo (s.internal.pushByte (v.extractLsb' 8 8)) t (s.cpu.sp - 1) (s.cpu.sp - 2) (v.extractLsb' 8 8) (v.extractLsb' 0 8)

/-- 41_load16.md R146 and R147: POP. The low byte is read first; POP AF discards bits 3:0 of it. -/
def Obligations.PopPair : Prop :=
  ∀ s : State, s.PopsMemory ∧
    (∃ t, exec (.pop .bc) s = .next t ∧ t.core = { s.core with b := s.popHi, c := s.popLo, sp := s.cpu.sp + 2 } ∧
      t.cycles = s.cycles + 8 ∧ s.Undisturbed t) ∧
    (∃ t, exec (.pop .de) s = .next t ∧ t.core = { s.core with d := s.popHi, e := s.popLo, sp := s.cpu.sp + 2 } ∧
      t.cycles = s.cycles + 8 ∧ s.Undisturbed t) ∧
    (∃ t, exec (.pop .hl) s = .next t ∧ t.core = { s.core with h := s.popHi, l := s.popLo, sp := s.cpu.sp + 2 } ∧
      t.cycles = s.cycles + 8 ∧ s.Undisturbed t) ∧
    (∃ t, exec (.pop .af) s = .next t ∧ t.core = { s.core with a := s.popHi, f := s.popLo &&& 0xF0, sp := s.cpu.sp + 2 } ∧
      t.cycles = s.cycles + 8 ∧ s.Undisturbed t)

/-- 41_load16.md R143: `LD (nn),SP`, low byte at nn, then high byte at nn + 1 modulo 2^16. -/
def Obligations.StoreSp : Prop :=
  ∀ (s : State) (nn : Addr),
    ∃ t, exec (.ldAtImm16SP nn) s = .next t ∧ t.core = s.core ∧ t.cycles = s.cycles + 8 ∧
      s.WroteTwo (s.memWrite nn (s.cpu.sp.extractLsb' 0 8)) t nn (nn + 1) (s.cpu.sp.extractLsb' 0 8) (s.cpu.sp.extractLsb' 8 8)

/-- 41_load16.md R144 and R148, 43_alu16.md R168: SP moves and sums; H and C come from the unsigned sum of the low bytes. -/
def Obligations.StackPointer : Prop :=
  ∀ s : State,
    (∃ t, exec .ldSPHL s = .next t ∧ t.core = { s.core with sp := s.cpu.h ++ s.cpu.l } ∧ t.cycles = s.cycles + 4 ∧ s.Undisturbed t) ∧
    (∀ e : Byte, ∃ t, exec (.ldHLSPDisp e) s = .next t ∧
      (t.cpu.h ++ t.cpu.l).toNat = ((s.cpu.sp.toNat : Int) + e.toInt) % 65536 ∧
      { t.core with h := s.cpu.h, l := s.cpu.l, f := s.cpu.f } = s.core ∧
      t.flagZ = false ∧ t.flagN = false ∧ t.flagH = decide (s.cpu.sp.toNat % 16 + e.toNat % 16 > 0x0F) ∧
      t.flagC = decide (s.cpu.sp.toNat % 256 + e.toNat > 0xFF) ∧ t.cycles = s.cycles + 4 ∧ s.Undisturbed t) ∧
    (∀ e : Byte, ∃ t, exec (.addSPDisp e) s = .next t ∧
      t.cpu.sp.toNat = ((s.cpu.sp.toNat : Int) + e.toInt) % 65536 ∧
      { t.core with sp := s.cpu.sp, f := s.cpu.f } = s.core ∧
      t.flagZ = false ∧ t.flagN = false ∧ t.flagH = decide (s.cpu.sp.toNat % 16 + e.toNat % 16 > 0x0F) ∧
      t.flagC = decide (s.cpu.sp.toNat % 256 + e.toNat > 0xFF) ∧ t.cycles = s.cycles + 8 ∧ s.Undisturbed t)

/-! 8-bit arithmetic and logic. -/

/-- 42_alu8.md R151 and R152, in the forms of R150: ADD and ADC. -/
def Obligations.AddAdc : Prop :=
  ∀ s : State, let a := s.cpu.a.toNat; let c := if s.flagC then 1 else 0
    AluForms .add s (fun t v => s.Computed t (BitVec.ofNat 8 (a + v.toNat)) (decide ((a + v.toNat) % 256 = 0)) false
      (decide (a % 16 + v.toNat % 16 > 0xF)) (decide (a + v.toNat > 0xFF))) ∧
    AluForms .adc s (fun t v => s.Computed t (BitVec.ofNat 8 (a + v.toNat + c)) (decide ((a + v.toNat + c) % 256 = 0)) false
      (decide (a % 16 + v.toNat % 16 + c > 0xF)) (decide (a + v.toNat + c > 0xFF)))

/-- 42_alu8.md R153, R154 and R158, in the forms of R150: SUB, SBC and CP. -/
def Obligations.SubSbcCp : Prop :=
  ∀ s : State, let a := s.cpu.a.toNat; let c := if s.flagC then 1 else 0
    AluForms .sub s (fun t v => s.Computed t (BitVec.ofNat 8 (a + 256 - v.toNat)) (decide (a = v.toNat)) true
      (decide (a % 16 < v.toNat % 16)) (decide (a < v.toNat))) ∧
    AluForms .sbc s (fun t v => s.Computed t (BitVec.ofNat 8 (a + 512 - v.toNat - c)) (decide ((a + 512 - v.toNat - c) % 256 = 0)) true
      (decide (a % 16 < v.toNat % 16 + c)) (decide (a < v.toNat + c))) ∧
    AluForms .cp s (fun t v => s.Computed t s.cpu.a (decide (a = v.toNat)) true
      (decide (a % 16 < v.toNat % 16)) (decide (a < v.toNat)))

/-- 42_alu8.md R155, R156 and R157, in the forms of R150: AND, XOR and OR. -/
def Obligations.LogicOps : Prop :=
  ∀ s : State,
    AluForms .and s (fun t v => s.Computed t (s.cpu.a &&& v) (decide (s.cpu.a &&& v = 0)) false true false) ∧
    AluForms .xor s (fun t v => s.Computed t (s.cpu.a ^^^ v) (decide (s.cpu.a ^^^ v = 0)) false false false) ∧
    AluForms .or s (fun t v => s.Computed t (s.cpu.a ||| v) (decide (s.cpu.a ||| v = 0)) false false false)

/-- 42_alu8.md R159 and R160: INC and DEC of a register and of the byte at HL; C is unchanged. -/
def Obligations.IncDec8 : Prop :=
  ∀ s : State,
    ModifyForms .inc s (· + 1) (fun v => decide (v = 0xFF)) (fun _ => false) (fun v => decide (v.toNat % 16 = 15)) (fun _ => s.flagC) ∧
    ModifyForms .dec s (· - 1) (fun v => decide (v = 0x01)) (fun _ => true) (fun v => decide (v.toNat % 16 = 0)) (fun _ => s.flagC)

/-- 42_alu8.md R161 to R164: DAA, CPL, SCF and CCF, for every A and F. -/
def Obligations.AccumulatorFlags : Prop :=
  ∀ s : State, let d := daaNumber s.cpu.a.toNat s.flagN s.flagH s.flagC
    (∃ t, exec .daa s = .next t ∧ t = { s with cpu := { s.cpu with a := t.cpu.a, f := t.cpu.f } } ∧
      s.Computed t (BitVec.ofNat 8 d.1) (decide (d.1 = 0)) s.flagN false d.2) ∧
    (∃ t, exec .cpl s = .next t ∧ t = { s with cpu := { s.cpu with a := t.cpu.a, f := t.cpu.f } } ∧
      s.Computed t (BitVec.ofNat 8 (255 - s.cpu.a.toNat)) s.flagZ true true s.flagC) ∧
    (∃ t, exec .scf s = .next t ∧ t = { s with cpu := { s.cpu with f := t.cpu.f } } ∧ s.Computed t s.cpu.a s.flagZ false false true) ∧
    (∃ t, exec .ccf s = .next t ∧ t = { s with cpu := { s.cpu with f := t.cpu.f } } ∧
      s.Computed t s.cpu.a s.flagZ false false (!s.flagC))

/-- Derived from 42_alu8.md R151, R153 and R161: ADD A,B and then DAA adds two-digit decimal numbers, SUB B and then DAA subtracts
them, with the decimal carry and borrow in C. -/
def Obligations.DecimalArithmetic : Prop :=
  ∀ (s : State) (x y : Nat), x < 100 → y < 100 → s.cpu.a = bcd x → s.cpu.b = bcd y →
    (∃ t u, exec (.alu .add (.reg .b)) s = .next t ∧ exec .daa t = .next u ∧
      u.cpu.a = bcd ((x + y) % 100) ∧ u.flagC = decide (100 ≤ x + y) ∧ u.flagZ = decide ((x + y) % 100 = 0)) ∧
    (∃ t u, exec (.alu .sub (.reg .b)) s = .next t ∧ exec .daa t = .next u ∧
      u.cpu.a = bcd ((x + 100 - y) % 100) ∧ u.flagC = decide (x < y) ∧ u.flagZ = decide (x = y))

/-! 16-bit arithmetic. -/

/-- 43_alu16.md R165, R166 and R167: ADD HL,rr, INC rr and DEC rr. -/
def Obligations.Arith16 : Prop :=
  ∀ (s : State) (p : Pair),
    let hl := (s.cpu.h ++ s.cpu.l).toNat
    let v := (match p with
      | .bc => s.cpu.b ++ s.cpu.c
      | .de => s.cpu.d ++ s.cpu.e
      | .hl => s.cpu.h ++ s.cpu.l
      | .sp => s.cpu.sp : Addr)
    (∃ t, exec (.addHL p) s = .next t ∧ (t.cpu.h ++ t.cpu.l).toNat = (hl + v.toNat) % 65536 ∧
      { t.core with h := s.cpu.h, l := s.cpu.l, f := s.cpu.f } = s.core ∧
      t.flagZ = s.flagZ ∧ t.flagN = false ∧ t.flagH = decide (hl % 4096 + v.toNat % 4096 > 0x0FFF) ∧
      t.flagC = decide (hl + v.toNat > 0xFFFF) ∧ t.cycles = s.cycles + 4 ∧ s.Undisturbed t) ∧
    (∃ t, exec (.incPair p) s = .next t ∧ t.core = s.core.setPair p (v + 1) ∧ t.cycles = s.cycles + 4 ∧ s.Undisturbed t) ∧
    (∃ t, exec (.decPair p) s = .next t ∧ t.core = s.core.setPair p (v - 1) ∧ t.cycles = s.cycles + 4 ∧ s.Undisturbed t)

/-! Rotates, shifts and bits. -/

/-- 44_rotate_shift_bit.md R169 to R172: the accumulator rotates; Z is always cleared. -/
def Obligations.RotateA : Prop :=
  ∀ s : State, let a := s.cpu.a.toNat; let c := if s.flagC then 1 else 0
    (∃ t, exec .rlca s = .next t ∧ t = { s with cpu := { s.cpu with a := t.cpu.a, f := t.cpu.f } } ∧
      s.Computed t (BitVec.ofNat 8 (a * 2 % 256 + a / 128)) false false false (decide (a / 128 = 1))) ∧
    (∃ t, exec .rrca s = .next t ∧ t = { s with cpu := { s.cpu with a := t.cpu.a, f := t.cpu.f } } ∧
      s.Computed t (BitVec.ofNat 8 (a / 2 + a % 2 * 128)) false false false (decide (a % 2 = 1))) ∧
    (∃ t, exec .rla s = .next t ∧ t = { s with cpu := { s.cpu with a := t.cpu.a, f := t.cpu.f } } ∧
      s.Computed t (BitVec.ofNat 8 (a * 2 % 256 + c)) false false false (decide (a / 128 = 1))) ∧
    (∃ t, exec .rra s = .next t ∧ t = { s with cpu := { s.cpu with a := t.cpu.a, f := t.cpu.f } } ∧
      s.Computed t (BitVec.ofNat 8 (a / 2 + c * 128)) false false false (decide (a % 2 = 1)))

/-- 44_rotate_shift_bit.md R174 to R181: the CB rotates and shifts, on a register and on the byte at HL. -/
def Obligations.ShiftCb : Prop :=
  ∀ (s : State) (op : ShiftOp), let c := if s.flagC then 1 else 0
    ModifyForms (.shift op) s (fun v => BitVec.ofNat 8 (shiftNumber op v.toNat c)) (fun v => decide (shiftNumber op v.toNat c = 0))
      (fun _ => false) (fun _ => false) (fun v => decide (shiftCarry op v.toNat = 1))

/-- 44_rotate_shift_bit.md R182: BIT. Only F changes; the form on (HL) does one read and no write. -/
def Obligations.BitTest : Prop :=
  ∀ (s : State) (b : Index3),
    (∀ r, ∃ t, exec (.bit b (.reg r)) s = .next t ∧ t = { s with cpu := { s.cpu with f := t.cpu.f } } ∧
      s.Flagged t (decide ((s.reg r).toNat / 2 ^ index3 b % 2 = 0)) false true s.flagC) ∧
    (∃ t, exec (.bit b .atHL) s = .next t ∧ t.cycles = s.cycles + 4 ∧ s.Undisturbed t ∧
      s.Flagged t (decide ((s.memRead s.hl).1.toNat / 2 ^ index3 b % 2 = 0)) false true s.flagC)

/-- 44_rotate_shift_bit.md R183 and R184: RES and SET. -/
def Obligations.ResSet : Prop :=
  ∀ (s : State) (b : Index3),
    BitWriteForms (.res b) s (fun v => v &&& ~~~(1#8 <<< index3 b)) ∧ BitWriteForms (.set b) s (fun v => v ||| 1#8 <<< index3 b)

/-! Control transfer. -/

/-- 45_control.md R186 to R190, with the conditions of 30_encoding.md R102: jumps, taken and not taken. -/
def Obligations.Jumps : Prop :=
  ∀ s : State,
    (s.cond .z = bit s.cpu.f 7 ∧ s.cond .nz = !bit s.cpu.f 7 ∧ s.cond .c = bit s.cpu.f 4 ∧ s.cond .nc = !bit s.cpu.f 4) ∧
    (∀ nn, ∃ t, exec (.jpImm16 nn) s = .next t ∧ t.core = { s.core with pc := nn } ∧ t.cycles = s.cycles + 4 ∧ s.Undisturbed t) ∧
    (∀ cc nn, s.cond cc = true →
      ∃ t, exec (.jpCond cc nn) s = .next t ∧ t.core = { s.core with pc := nn } ∧ t.cycles = s.cycles + 4 ∧ s.Undisturbed t) ∧
    (∀ cc nn, s.cond cc = false → exec (.jpCond cc nn) s = .next s) ∧
    exec .jpHL s = .next { s with cpu := { s.cpu with pc := s.cpu.h ++ s.cpu.l } } ∧
    (∀ e : Byte, ∃ t, exec (.jrDisp e) s = .next t ∧ t.core = { s.core with pc := BitVec.ofInt 16 (s.cpu.pc.toNat + e.toInt) } ∧
      t.cycles = s.cycles + 4 ∧ s.Undisturbed t) ∧
    (∀ cc (e : Byte), s.cond cc = true →
      ∃ t, exec (.jrCond cc e) s = .next t ∧ t.core = { s.core with pc := BitVec.ofInt 16 (s.cpu.pc.toNat + e.toInt) } ∧
        t.cycles = s.cycles + 4 ∧ s.Undisturbed t) ∧
    (∀ cc e, s.cond cc = false → exec (.jrCond cc e) s = .next s)

/-- 45_control.md R191, R192 and R196: CALL, taken and not taken, and RST: the address of the next instruction is pushed. -/
def Obligations.CallRst : Prop :=
  ∀ s : State, let ret := s.cpu.pc; let hi := ret.extractLsb' 8 8; let lo := ret.extractLsb' 0 8
    (∀ nn, ∃ t, exec (.callImm16 nn) s = .next t ∧ t.core = { s.core with sp := s.cpu.sp - 2, pc := nn } ∧ t.cycles = s.cycles + 12 ∧
      s.WroteTwo (s.internal.pushByte hi) t (s.cpu.sp - 1) (s.cpu.sp - 2) hi lo) ∧
    (∀ cc nn, s.cond cc = true →
      ∃ t, exec (.callCond cc nn) s = .next t ∧ t.core = { s.core with sp := s.cpu.sp - 2, pc := nn } ∧ t.cycles = s.cycles + 12 ∧
        s.WroteTwo (s.internal.pushByte hi) t (s.cpu.sp - 1) (s.cpu.sp - 2) hi lo) ∧
    (∀ cc nn, s.cond cc = false → exec (.callCond cc nn) s = .next s) ∧
    (∀ k, ∃ t, exec (.rst k) s = .next t ∧ t.core = { s.core with sp := s.cpu.sp - 2, pc := BitVec.ofNat 16 (8 * index3 k) } ∧
      t.cycles = s.cycles + 12 ∧ s.WroteTwo (s.internal.pushByte hi) t (s.cpu.sp - 1) (s.cpu.sp - 2) hi lo)

/-- 45_control.md R193, R194 and R195: RET, RET cc taken and not taken, and RETI, which also sets IME at once. -/
def Obligations.Returns : Prop :=
  ∀ s : State, s.PopsMemory ∧
    (∃ t, exec .ret s = .next t ∧ t.core = { s.core with sp := s.cpu.sp + 2, pc := s.popHi ++ s.popLo } ∧
      t.cycles = s.cycles + 12 ∧ s.Undisturbed t) ∧
    (∀ cc, s.cond cc = true →
      ∃ t, exec (.retCond cc) s = .next t ∧
        t.core = { s.core with sp := s.cpu.sp + 2, pc := s.internal.popHi ++ s.internal.popLo } ∧
        t.cycles = s.cycles + 16 ∧ s.Undisturbed t) ∧
    (∀ cc, s.cond cc = false →
      ∃ t, exec (.retCond cc) s = .next t ∧ t.core = s.core ∧ t.cycles = s.cycles + 4 ∧ s.Undisturbed t) ∧
    (∃ t, exec .reti s = .next t ∧
      t.core = { s.core with sp := s.cpu.sp + 2, pc := s.popHi ++ s.popLo, ime := true, imePending := false } ∧
      t.cycles = s.cycles + 12 ∧ s.Undisturbed t)

/-! The system instructions. -/

/-- 46_system.md R198 and R199, 10_state.md R37: NOP, DI and EI, and the EI delay: a boundary that does not dispatch (with IME = 0, one
does not, whatever is pending) sets IME before the instruction is fetched, and that instruction runs. -/
def Obligations.EiDelay : Prop :=
  (∀ s : State, exec .nop s = .next s ∧
    exec .di s = .next { s with cpu := { s.cpu with ime := false, imePending := false } } ∧
    exec .ei s = .next { s with cpu := { s.cpu with imePending := true } }) ∧
  (∀ s : State, s.RunsInstr → s.HooksBehave → s.cpu.imePending = true →
    ∃ i u, s.nextInstr = some i ∧ step s = exec i u ∧ u.cpu.ime = true ∧ u.cpu.imePending = false ∧ u.cpu.imeBefore = s.cpu.ime)

/-- Derived from 46_system.md R201 and R202: HALT halts with no enabled request; with one, it does nothing when IME was 1 at the start of
its step, and otherwise arms the halt bug, by which the next opcode fetch does not increment PC. -/
def Obligations.HaltInstr : Prop :=
  ∀ s : State,
    (s.pendingByte = 0 → exec .halt s = .next { s with cpu := { s.cpu with halted := true } }) ∧
    (s.pendingByte ≠ 0 → s.cpu.imeBefore = true → exec .halt s = .next s) ∧
    (s.pendingByte ≠ 0 → s.cpu.imeBefore = false → exec .halt s = .next { s with cpu := { s.cpu with haltBug := true } }) ∧
    (s.cpu.haltBug = true → s.fetchOp.2.core = { s.core with haltBug := false }) ∧
    (s.cpu.haltBug = false → s.fetchOp.2.core = { s.core with pc := s.cpu.pc + 1 })

/-- Derived from 46_system.md R204 and R205: STOP switches the speed in the CGB model when KEY1 bit 0 is 1, and enters stop
mode otherwise; the system counter becomes 0 either way, and TIMA and the reload and overflow latches are the only other state it may
touch (notes/assumptions/17.md). -/
def Obligations.StopInstr : Prop :=
  ∀ (s : State) (n : Byte),
    (s.model = .cgb → s.speedArmed = true →
      ∃ t, exec (.stop n) s = .next t ∧ t.doubleSpeed = (!s.doubleSpeed) ∧ t.speedArmed = false ∧
        t.timer = { s.timer with
          sysCounter := 0, tima := t.timer.tima, reloadPending := t.timer.reloadPending, overflow := t.timer.overflow } ∧
        t.cpu = { s.cpu with stallCount := 2050 } ∧
        { t with cpu := s.cpu, doubleSpeed := s.doubleSpeed, speedArmed := s.speedArmed, timer := s.timer } = s) ∧
    (s.model ≠ .cgb ∨ s.speedArmed = false →
      ∃ t, exec (.stop n) s = .next t ∧
        t.timer = { s.timer with
          sysCounter := 0, tima := t.timer.tima, reloadPending := t.timer.reloadPending, overflow := t.timer.overflow } ∧
        t.cpu = { s.cpu with stopped := true } ∧
        { t with cpu := s.cpu, timer := s.timer } = s)

/-! Interrupts. -/

/-- 60_exceptions.md R213 and R212: interrupt entry. The winner is the lowest enabled request after the high byte is pushed; its IF bit
is cleared and PC goes to its vector; PC, or PC - 1 under the halt bug, is on the stack; IME, the EI delay and the halt bug are cleared;
every other register is as it was; 5 M-cycles. -/
def Obligations.Dispatch : Prop :=
  ∀ s : State, s.Running → s.HooksBehave → s.cpu.ime = true → s.pendingByte ≠ 0 →
    let ret := if s.cpu.haltBug then s.cpu.pc - 1 else s.cpu.pc
    let u := s.dispatchEntry.pushByte (ret.extractLsb' 8 8)
    let x := u.pushByte (ret.extractLsb' 0 8)
    ∃ t, step s = .next t ∧ t.cycles = s.cycles + 20 ∧
      s.WroteTwo u t (s.cpu.sp - 1) (s.cpu.sp - 2) (ret.extractLsb' 8 8) (ret.extractLsb' 0 8) ∧
      (∀ k, k < 5 → bit u.pendingByte k = true → (∀ j, j < k → bit u.pendingByte j = false) →
        t.core = { s.core with ime := false, imePending := false, haltBug := false, sp := s.cpu.sp - 2,
                               pc := BitVec.ofNat 16 (0x40 + 8 * k) } ∧
        t = (State.internal { x with irq := Requests.ofByte (x.irq.toByte &&& ~~~(1#8 <<< k)) }).setPc (BitVec.ofNat 16 (0x40 + 8 * k))) ∧
      (u.pendingByte = 0 →
        t.core = { s.core with ime := false, imePending := false, haltBug := false, sp := s.cpu.sp - 2, pc := 0 } ∧
        t = x.internal.setPc 0)

/-- Derived from 60_exceptions.md R214: with SP = 0x0000 the high-byte push writes IE before the winner is chosen, and a write that disables every
request makes the dispatch go to 0x0000 and clear no request; with SP = 0x0001 the low-byte push writes IE afterwards. -/
def Obligations.DispatchPushesIe : Prop :=
  ∀ s : State, s.Running → s.Quiet → s.cpu.ime = true → s.pendingByte ≠ 0 → s.cpu.haltBug = false →
    (s.cpu.sp = 0x0000 →
      ∃ t, step s = .next t ∧ t.ie = s.cpu.pc.extractLsb' 8 8 ∧
        (s.cpu.pc.extractLsb' 8 8 &&& 0x1F = 0 → t.cpu.pc = 0x0000 ∧ ∀ k, bit s.irq.toByte k = true → bit t.irq.toByte k = true)) ∧
    (s.cpu.sp = 0x0001 →
      ∃ t, step s = .next t ∧ t.ie = s.cpu.pc.extractLsb' 0 8 ∧ t.cpu.pc ≠ 0x0000)

/-! Memory, banks, devices. -/

/-- Derived from the last sentence of 20_memory.md R55 and from R74: no write to 0x0000-0x7FFF changes memory, and bank numbers are reduced.
The last part, that no RAM bank is given exactly under an MBC2 (R80) and under an MBC3 whose SEL is 4 to 15 (R81), is the model's choice
(notes/assumptions/27.md): no rule gives a bank there. -/
def Obligations.RomAndBanks : Prop :=
  (∀ (s : State) (a : Addr) (v : Byte), s.Quiet → a.toNat < 0x8000 → (s.memWrite a v).memory = s.memory) ∧
  (∀ c : Cart, 0 < c.info.romBanks → c.rom0Bank < c.info.romBanks ∧ c.romxBank < c.info.romBanks ∧
    c.rom0Bank = c.rom0Value % c.info.romBanks ∧ c.romxBank = c.romxValue % c.info.romBanks) ∧
  (∀ c : Cart, 0 < c.info.ramBanks → (∀ b, c.ramBank = some b → b < c.info.ramBanks) ∧ c.ramBank = c.ramValue.map (· % c.info.ramBanks) ∧
    (c.ramBank = none ↔ c.info.kind = .mbc2 ∨ (c.info.kind = .mbc3 ∧ 4 ≤ c.sel.toNat)))

/-- Derived from 20_memory.md R78: MBC1, its writes and its mapping. -/
def Obligations.Mbc1 : Prop :=
  ∀ (s : State) (a : Addr) (v : Byte), s.cart.info.kind = .mbc1 → s.cart.info.multicart = false → s.oamDma.active = false →
    let d := { (s.resolveWrite a v).cart with lastValue := s.cart.lastValue, lastTick := s.cart.lastTick }
    (a.toNat < 0x2000 → d = { s.cart with ramEnabled := decide (v.toNat % 16 = 10) }) ∧
    (0x2000 ≤ a.toNat → a.toNat < 0x4000 →
      d = { s.cart with bank1 := if v.toNat % 32 = 0 then 1 else BitVec.ofNat 5 v.toNat }) ∧
    (0x4000 ≤ a.toNat → a.toNat < 0x6000 → d = { s.cart with bank2 := BitVec.ofNat 2 v.toNat }) ∧
    (0x6000 ≤ a.toNat → a.toNat < 0x8000 → d = { s.cart with mode := decide (v.toNat % 2 = 1) }) ∧
    s.cart.romxBank = (s.cart.bank2.toNat * 32 + s.cart.bank1.toNat) % s.cart.info.romBanks ∧
    s.cart.rom0Bank = (if s.cart.mode then s.cart.bank2.toNat * 32 else 0) % s.cart.info.romBanks ∧
    (0 < s.cart.info.ramBanks → s.cart.ramBank = some ((if s.cart.mode then s.cart.bank2.toNat else 0) % s.cart.info.ramBanks))

/-- Derived from 20_memory.md R60, R62, R64 and R92: a byte written to WRAM, its echo or HRAM is what a read gives at every address of the
same cell, of the echo as of WRAM; the bytes of other cells are kept. -/
def Obligations.PlainMemory : Prop :=
  ∀ (s : State) (a b : Addr) (v : Byte), s.Quiet → plainRam a = true → plainRam b = true →
    ((s.memWrite a v).memRead a).1 = v ∧
    (s.cellOf a = s.cellOf b → ((s.memWrite a v).memRead b).1 = v) ∧
    (0xE000 ≤ a.toNat → a.toNat < 0xFE00 → ((s.memWrite a v).memRead (a - 0x2000)).1 = v) ∧
    (0xC000 ≤ a.toNat → a.toNat < 0xDE00 → ((s.memWrite a v).memRead (a + 0x2000)).1 = v) ∧
    (s.cellOf a ≠ s.cellOf b → ((s.memWrite a v).memRead b).1 = (s.memRead b).1)

/-- Derived from 60_exceptions.md R228 and 20_memory.md R69: OAM DMA from a page of WRAM. 160 M-cycles after the M-cycle of the write all
160 bytes are in OAM and the transfer is over; while it is in progress the CPU reaches only 0xFF00-0xFFFF: a write below does nothing, a read
of OAM gives 0xFF (R228) and any other read below the draw of R69, whatever its value. Which M-cycles move a byte, and that the 0xFF of
R228 is what R69's draw is in OAM, is the model's reading (notes/assumptions/22.md and 6.md). -/
def Obligations.OamDmaTransfer : Prop :=
  (∀ (s : State) (v : Byte), s.Quiet → 0xC0 ≤ v.toNat → v.toNat < 0xE0 →
    let t := (s.memWrite 0xFF46 v).internals 160
    t.oamDma.active = false ∧ t.oamDma.starting = false ∧ t.oamDma.reg = v ∧
    ∀ i, i < 160 → t.ramByte .oam i = s.ramByte .wram (s.wramOffset (v.toNat * 256 + i - 0xC000))) ∧
  (∀ (s : State) (a : Addr) (v : Byte), s.oamDma.active = true → a.toNat < 0xFF00 →
    s.cpuWrite a v = s ∧ (s.cpuRead a).2 = s.nextDraw ∧
    (0xFE00 ≤ a.toNat → a.toNat < 0xFEA0 → (s.cpuRead a).1 = 0xFF) ∧
    (a.toNat < 0xFE00 ∨ 0xFEA0 ≤ a.toNat → (s.cpuRead a).1 = Config.dmaConflict s.draws a))

/-- Derived from 60_exceptions.md R222 and R223: overflow and reload of the timer, and the writes around it; and from R217 and R218: the counter
behind DIV advances by 4 per M-cycle. -/
def Obligations.TimerReload : Prop :=
  (∀ s : State, s.Quiet → s.internal.timer = s.timer.endCycle true ∧
    s.internal.irq.timer = (s.irq.timer || s.timer.reloadPending) ∧
    s.internal.timer.sysCounter = s.timer.sysCounter + 4 ∧
    s.internal.ioValue 0xFF04 .div = (s.timer.sysCounter + 4).extractLsb' 8 8 ∧
    ∀ v, (s.memWrite 0xFF05 v).timer = (s.timer.writeTima v).endCycle true ∧
      (s.memWrite 0xFF05 v).irq.timer = (s.irq.timer || (s.timer.writeTima v).reloadPending) ∧
      (s.memWrite 0xFF06 v).timer = (s.timer.writeTma v).endCycle true ∧
      (s.memWrite 0xFF06 v).irq.timer = (s.irq.timer || s.timer.reloadPending)) ∧
  (∀ t : Timer, t.tima = 0xFF → t.overflow = false → t.reloadPending = false →
    t.signal = true → Timer.signal { t with sysCounter := t.sysCounter + 4 } = false →
    let k := t.endCycle true
    k.tima = 0x00 ∧ k.reloadPending = true ∧
    (k.endCycle true).tima = t.tma ∧ (k.endCycle true).reloadPending = false ∧ (k.endCycle true).reloadedNow = true ∧
    (∀ v, (k.writeTima v).reloadPending = false ∧ (k.reloadedNow = false → (k.writeTima v).tima = v)) ∧
    (∀ v, (k.endCycle true).writeTima v = k.endCycle true ∧ ((k.endCycle true).writeTma v).tima = v ∧
      ((k.endCycle true).writeTma v).tma = v) ∧
    ((k.endCycle true).endCycle true).reloadedNow = false)

/-- Derived from 60_exceptions.md R226 and R227: a serial transfer, with a peer and without. With the internal clock it ends after 8 bits,
1,024 M-cycles or 32 with the fast clock, and not before; SB is then the peer's next 8 bits, the first as bit 7 and a missing one 1, SC[7] is
0 and the serial interrupt requested. With the external clock an M-cycle shifts a bit exactly when the peer clocks it, so that with no peer
the transfer never completes. That a peer clocks at most one bit in an M-cycle, and how it reaches the model, is the model's choice
(notes/assumptions/58.md), and so is how the M-cycle of the write to SC counts (notes/assumptions/24.md). -/
def Obligations.SerialTransfer : Prop :=
  ∀ s : State, s.Quiet → s.serial.busy = true →
    let peer := s.host.peer
    (s.serial.internal = true → s.serial.ticks = 0 → s.serial.bits = 0 →
      let n := if s.serial.fast then 32 else 1024
      let t := s.internals n
      (∀ k, k < 8 → bit t.serial.sb (7 - k) = peer.bits.getD k true) ∧ (peer.bits = [] → t.serial.sb = 0xFF) ∧
      t.host.peer = ⟨peer.bits.drop 8, peer.clocks⟩ ∧ t.serial.busy = false ∧ t.irq.serial = true ∧
      ∀ m, m < n → (s.internals m).serial.busy = true) ∧
    (s.serial.internal = false →
      (peer.clocks.headD false = true →
        let t := s.internal
        t.serial.sb = s.serial.sb <<< 1 ||| (if peer.bits.headD true then 1 else 0) ∧
        t.host.peer = ⟨peer.bits.tail, peer.clocks.tail⟩ ∧
        (s.serial.bits < 7 → t.serial.busy = true ∧ t.serial.bits = s.serial.bits + 1 ∧ t.irq.serial = s.irq.serial) ∧
        (7 ≤ s.serial.bits → t.serial.busy = false ∧ t.irq.serial = true)) ∧
      (peer.clocks.headD false = false →
        s.internal.serial = s.serial ∧ s.internal.irq.serial = s.irq.serial ∧ s.internal.host.peer = ⟨peer.bits, peer.clocks.tail⟩) ∧
      (peer.clocks = [] → ∀ m, (s.internals m).serial = s.serial))

/-- Derived from 20_memory.md R84 to R87: the RTC latch; with RAM enabled and SEL 8 to 12, a read of 0xA000-0xBFFF gives the latched
snapshot and a write sets the live counter. -/
def Obligations.RtcLatch : Prop :=
  (∀ (s : State) (a : Addr) (v : Byte), s.cart.info.kind = .mbc3 → s.cart.info.hasRtc = true → s.oamDma.active = false →
    0x6000 ≤ a.toNat → a.toNat < 0x8000 →
    (s.resolveWrite a v).rtc =
      (if s.rtc.latchArmed ∧ v = 0x01 then
        { s.rtc with
          latchedS := s.rtc.s, latchedM := s.rtc.m, latchedH := s.rtc.h, latchedDL := s.rtc.d.extractLsb' 0 8
          latchedDH := BitVec.ofNat 8 ((if s.rtc.carry then 128 else 0) + (if s.rtc.halt then 64 else 0) + s.rtc.d.toNat / 256)
          latchArmed := false }
      else { s.rtc with latchArmed := decide (v = 0x00) })) ∧
  (∀ (s : State) (a : Addr) (v : Byte), s.cart.info.kind = .mbc3 → s.cart.info.hasRtc = true → s.cart.ramEnabled = true →
    0xA000 ≤ a.toNat → a.toNat < 0xC000 →
    let reads := (s.resolveRead a).1
    (s.cart.sel = 8 → reads = BitVec.ofNat 8 s.rtc.latchedS.toNat) ∧
    (s.cart.sel = 9 → reads = BitVec.ofNat 8 s.rtc.latchedM.toNat) ∧
    (s.cart.sel = 10 → reads = BitVec.ofNat 8 s.rtc.latchedH.toNat) ∧
    (s.cart.sel = 11 → reads = s.rtc.latchedDL) ∧
    (s.cart.sel = 12 → reads = s.rtc.latchedDH &&& 0xC1) ∧
    (8 ≤ s.cart.sel.toNat → s.cart.sel.toNat ≤ 12 → (s.resolveRead a).2.rtc = s.rtc) ∧
    (s.oamDma.active = false →
      let after := (s.resolveWrite a v).rtc
      (s.cart.sel = 8 → after = { s.rtc with s := BitVec.ofNat 6 v.toNat, sub := 0 }) ∧
      (s.cart.sel = 9 → after = { s.rtc with m := BitVec.ofNat 6 v.toNat }) ∧
      (s.cart.sel = 10 → after = { s.rtc with h := BitVec.ofNat 5 v.toNat }) ∧
      (s.cart.sel = 11 → after = { s.rtc with d := BitVec.ofNat 9 (s.rtc.d.toNat / 256 * 256 + v.toNat) }) ∧
      (s.cart.sel = 12 → after = { s.rtc with
        d := BitVec.ofNat 9 (v.toNat % 2 * 256 + s.rtc.d.toNat % 256), halt := bit v 6, carry := bit v 7 })))

/-- Derived from 60_exceptions.md R224 and R225: a CPU read of P1 polls the hook once and gives the selected lines; a selected line newly
pressed requests the joypad interrupt. Without a hook the mask is 0. -/
def Obligations.JoypadRead : Prop :=
  (∀ (s : State) (m : Byte) (rs : List HookReply), s.host.hooks.inputPoll = true → s.host.replies = ⟨m, []⟩ :: rs →
    let act := if s.joypad.select.getLsbD 1 then 0 else m.toNat % 16
    let dir := if s.joypad.select.getLsbD 0 then 0 else m.toNat / 16
    let low := 15 - (act ||| dir)
    (s.cpuRead 0xFF00).1 = BitVec.ofNat 8 (0xC0 + 16 * s.joypad.select.toNat + low) ∧
    (s.cpuRead 0xFF00).2.joypad = { s.joypad with lastLines := BitVec.ofNat 4 low } ∧
    (s.cpuRead 0xFF00).2.host.replies = rs ∧
    (s.cpuRead 0xFF00).2.irq = { s.irq with joypad := s.irq.joypad || decide (s.joypad.lastLines.toNat &&& (15 - low) ≠ 0) }) ∧
  (∀ s : State, s.host.hooks.inputPoll = false → (s.cpuRead 0xFF00).1 = BitVec.ofNat 8 (0xCF + 16 * s.joypad.select.toNat))

/-- Derived from 60_exceptions.md R241: an opcode fetch at an entry of the breakpoint set whose bank is the active bank, or bank-independent, records
the hit and asks `runFor` to stop; a fetch that matches no entry does neither, and no other access and no other M-cycle does. The active bank is
that of the check, after the exec hook; only where no rule gives a RAM bank may it differ from the one before, and it is then a free value
(notes/assumptions/27.md). -/
def Obligations.BreakpointHit : Prop :=
  ∀ s : State, s.host.replies = [] →
    let bank := s.fetchHooks.activeBank s.cpu.pc
    ((∃ b ∈ s.host.breakpoints, b.addr = s.cpu.pc ∧ (b.bank = none ∨ b.bank = some bank)) →
      s.fetchOp.2.host.hitAddress = some s.cpu.pc ∧ s.fetchOp.2.host.stopRequested = true ∧
      ∀ n, s.fetchOp.2.runStops n = true) ∧
    ((∀ b ∈ s.host.breakpoints, b.addr = s.cpu.pc → b.bank ≠ none ∧ b.bank ≠ some bank) →
      s.fetchOp.2.host.hitAddress = s.host.hitAddress ∧ s.fetchOp.2.host.stopRequested = s.host.stopRequested) ∧
    ((0xA000 ≤ s.cpu.pc.toNat → s.cpu.pc.toNat < 0xC000 → s.cart.ramBank ≠ none) → bank = s.activeBank s.cpu.pc) ∧
    (let kept := fun t : State => t.host.hitAddress = s.host.hitAddress ∧ t.host.stopRequested = s.host.stopRequested
     kept s.fetchImm.2 ∧ kept s.internal ∧ (∀ a, kept (s.memRead a).2) ∧ (∀ a v, kept (s.memWrite a v)) ∧
     (∀ a, kept (s.externalRead a).2) ∧ (∀ a v, kept (s.externalWrite a v))) ∧
    (∀ a, a.toNat < 0x4000 → s.activeBank a = s.cart.rom0Bank) ∧
    (∀ a, 0x4000 ≤ a.toNat → a.toNat < 0x8000 → s.activeBank a = s.cart.romxBank) ∧
    (∀ a, 0xA000 ≤ a.toNat → a.toNat < 0xC000 → s.activeBank a = s.cart.ramBank.getD (Config.openRamBank s.draws)) ∧
    (∀ a, (0xD000 ≤ a.toNat ∧ a.toNat < 0xE000) ∨ (0xF000 ≤ a.toNat ∧ a.toNat < 0xFE00) → s.activeBank a = s.wramBank) ∧
    (∀ a, (0x8000 ≤ a.toNat ∧ a.toNat < 0xA000) ∨ (0xC000 ≤ a.toNat ∧ a.toNat < 0xD000) ∨ (0xE000 ≤ a.toNat ∧ a.toNat < 0xF000) ∨
      0xFE00 ≤ a.toNat → s.activeBank a = 0)

/-- 10_state.md R45: `setRegs` then `getRegs` gives the ten slots back on the legal domain and touches nothing but the ten registers:
with them put back, the machine is the one before; outside the domain it is refused. -/
def Obligations.HostRegisters : Prop :=
  ∀ (s : State) (x : List Nat), s.loaded = true → s.host.refusedMark = false →
    (registerSlotsFit x = true →
      ∃ t, hostCall (.setRegs x) s = .next (.nothing, t) ∧ hostCall .getRegs t = .next (.slots x, t) ∧ { t with cpu := s.cpu } = s ∧
        { t.cpu with
          pc := s.cpu.pc, sp := s.cpu.sp, a := s.cpu.a, b := s.cpu.b, c := s.cpu.c, d := s.cpu.d, e := s.cpu.e, f := s.cpu.f
          h := s.cpu.h, l := s.cpu.l } = s.cpu) ∧
    (registerSlotsFit x = false → hostCall (.setRegs x) s = .refused .badRegisterValue) ∧
    (registerSlotsFit x = true ↔ ∃ pc sp a b c d e f h l : Nat, x = [pc, sp, a, b, c, d, e, f, h, l] ∧ pc < 0x10000 ∧ sp < 0x10000 ∧
      a < 0x100 ∧ b < 0x100 ∧ c < 0x100 ∧ d < 0x100 ∧ e < 0x100 ∧ f < 0x100 ∧ h < 0x100 ∧ l < 0x100 ∧ f % 16 = 0)

/-- Derived from 10_state.md R43, 20_memory.md R55 and R65: no step changes the machine model, the boot mode, the cartridge or, without a
host call from a hook, a byte of ROM; and none maps the boot ROM again. -/
def Obligations.StepKeepsMachine : Prop :=
  ∀ s t : State, step s = .next t →
    t.model = s.model ∧ t.agbRegs = s.agbRegs ∧ t.bios = s.bios ∧ t.loaded = s.loaded ∧ t.bootDmg = s.bootDmg ∧
    t.bootCgb = s.bootCgb ∧ t.bootRom = s.bootRom ∧ t.cart.info = s.cart.info ∧ (s.bootMapped = false → t.bootMapped = false) ∧
    (s.host.replies = [] → t.rom = s.rom)

/-- Derived from 10_state.md R36: IME goes from 0 to 1 only by the end of the EI delay or by RETI, and from 1 to 0 only by DI or a dispatch. -/
def Obligations.ImeWriters : Prop :=
  ∀ s t : State, step s = .next t → s.cpu.halted = false →
    (s.cpu.ime = false → t.cpu.ime = true → s.cpu.imePending = true ∨ s.nextInstr = some .reti) ∧
    (s.cpu.ime = true → t.cpu.ime = false → s.pending = true ∨ s.nextInstr = some .di)

/-- Derived from 60_exceptions.md R233 and R234, with the frame of R231: `setLayers` sets the three bits of the mask, changes nothing else
of the machine and no pixel of the frame already completed; a pixel of a frame that completes is drawn with palettes and a mask that were in
force in its line, and shows no layer that this mask disables; and a frame drawn from position 0 to its end without a host call goes
through the palettes and the mask in force at its start and no other. That a pixel is drawn in the base ticks of its line, with which of the
looks in force in them, and that a completed frame keeps its colours, is the model's choice (notes/assumptions/51.md and 60.md), and so is
that a pixel of the background, the window or no layer goes through the BG palette (notes/assumptions/11.md). -/
def Obligations.LayerMask : Prop :=
  State.fresh.host.layerMask = 0x7 ∧
  (∀ (s : State) (mask : Nat), s.host.refusedMark = false →
    ∃ t, hostCall (.setLayers mask) s = .next (.nothing, t) ∧ t.host.layerMask.toNat = mask % 8 ∧
      { t with host := { t.host with layerMask := s.host.layerMask } } = s ∧ ∀ pitch, t.blit pitch = s.blit pitch) ∧
  (∀ (s : State) (x y : Nat), s.host.replies = [] → looksIn y 65664 s.host.picture ≠ [] →
    ∃ look ∈ looksIn y 65664 s.host.picture, ∃ k,
      (s.startLine 144).host.lastFrame.pixel x y = look.palettes.pixel s.model (s.startLine 144).draws x y k ∧
      ∀ l, k = some l → layerEnabled look.layerMask l = true) ∧
  (∀ s : State, s.Quiet → s.lcdOn = true → s.ppu.lineTick = 0 →
    ∃ n, ∀ x y,
      let pixel := (s.internals (if s.doubleSpeed then 32833 else 16417)).host.lastFrame.pixel x y
      (∃ k, pixel = s.host.palettes.pixel s.model n x y k ∧ ∀ l, k = some l → layerEnabled s.host.layerMask l = true) ∧
      (s.model = .dmg → s.host.layerMask.getLsbD 1 = false → ∃ i < 4, pixel = s.host.palettes.dmgColour 0 i))
end

