-- ==== Sys2Proof/Laws/PerInstr.lean ====
section
/-! SUPPORT. Statements made for every instruction: its encoding decodes to it, whatever follows, and has the length its first byte
asks for (30_encoding.md R113, R120). -/

namespace Sys2Proof.Laws.RoundTrip

/-- The encoding of an instruction is well-formed and decodes to the instruction, leaving the bytes that follow. -/
def Statement (i : Instr) : Prop := i.wf = true ∧ ∀ rest : List Byte, decode (encode i ++ rest) = .ok (i, rest)

/-- The two bytes of a 16-bit value make it (R17, R51). -/
theorem word_bytes (v : Addr) : word (hiByte v) (loByte v) = v := by
  unfold word hiByte loByte
  ext i hi
  simp only [BitVec.getElem_append, BitVec.getElem_extractLsb']
  split <;> simp_all [BitVec.getLsbD_eq_getElem]

theorem ldBCImm16 (nn : Addr) : Statement (.ldBCImm16 nn) :=
  ⟨rfl, fun rest => congrArg (fun a => Except.ok (Instr.ldBCImm16 a, rest)) (word_bytes nn)⟩

theorem ldBImm (n : Byte) : Statement (.ldBImm n) := ⟨rfl, fun _ => rfl⟩

theorem ldAtImm16SP (nn : Addr) : Statement (.ldAtImm16SP nn) :=
  ⟨rfl, fun rest => congrArg (fun a => Except.ok (Instr.ldAtImm16SP a, rest)) (word_bytes nn)⟩

theorem ldCImm (n : Byte) : Statement (.ldCImm n) := ⟨rfl, fun _ => rfl⟩

theorem stop (n : Byte) : Statement (.stop n) := ⟨rfl, fun _ => rfl⟩

theorem ldDEImm16 (nn : Addr) : Statement (.ldDEImm16 nn) :=
  ⟨rfl, fun rest => congrArg (fun a => Except.ok (Instr.ldDEImm16 a, rest)) (word_bytes nn)⟩

theorem ldDImm (n : Byte) : Statement (.ldDImm n) := ⟨rfl, fun _ => rfl⟩

theorem jrDisp (e : Byte) : Statement (.jrDisp e) := ⟨rfl, fun _ => rfl⟩

theorem ldEImm (n : Byte) : Statement (.ldEImm n) := ⟨rfl, fun _ => rfl⟩

theorem jrNZDisp (e : Byte) : Statement (.jrNZDisp e) := ⟨rfl, fun _ => rfl⟩

theorem ldHLImm16 (nn : Addr) : Statement (.ldHLImm16 nn) :=
  ⟨rfl, fun rest => congrArg (fun a => Except.ok (Instr.ldHLImm16 a, rest)) (word_bytes nn)⟩

theorem ldHImm (n : Byte) : Statement (.ldHImm n) := ⟨rfl, fun _ => rfl⟩

theorem jrZDisp (e : Byte) : Statement (.jrZDisp e) := ⟨rfl, fun _ => rfl⟩

theorem ldLImm (n : Byte) : Statement (.ldLImm n) := ⟨rfl, fun _ => rfl⟩

theorem jrNCDisp (e : Byte) : Statement (.jrNCDisp e) := ⟨rfl, fun _ => rfl⟩

theorem ldSPImm16 (nn : Addr) : Statement (.ldSPImm16 nn) :=
  ⟨rfl, fun rest => congrArg (fun a => Except.ok (Instr.ldSPImm16 a, rest)) (word_bytes nn)⟩

theorem ldAtHLImm (n : Byte) : Statement (.ldAtHLImm n) := ⟨rfl, fun _ => rfl⟩

theorem jrCDisp (e : Byte) : Statement (.jrCDisp e) := ⟨rfl, fun _ => rfl⟩

theorem ldAImm (n : Byte) : Statement (.ldAImm n) := ⟨rfl, fun _ => rfl⟩

theorem jpNZImm16 (nn : Addr) : Statement (.jpNZImm16 nn) :=
  ⟨rfl, fun rest => congrArg (fun a => Except.ok (Instr.jpNZImm16 a, rest)) (word_bytes nn)⟩

theorem jpImm16 (nn : Addr) : Statement (.jpImm16 nn) :=
  ⟨rfl, fun rest => congrArg (fun a => Except.ok (Instr.jpImm16 a, rest)) (word_bytes nn)⟩

theorem callNZImm16 (nn : Addr) : Statement (.callNZImm16 nn) :=
  ⟨rfl, fun rest => congrArg (fun a => Except.ok (Instr.callNZImm16 a, rest)) (word_bytes nn)⟩

theorem addAImm (n : Byte) : Statement (.addAImm n) := ⟨rfl, fun _ => rfl⟩

theorem jpZImm16 (nn : Addr) : Statement (.jpZImm16 nn) :=
  ⟨rfl, fun rest => congrArg (fun a => Except.ok (Instr.jpZImm16 a, rest)) (word_bytes nn)⟩

theorem callZImm16 (nn : Addr) : Statement (.callZImm16 nn) :=
  ⟨rfl, fun rest => congrArg (fun a => Except.ok (Instr.callZImm16 a, rest)) (word_bytes nn)⟩

theorem callImm16 (nn : Addr) : Statement (.callImm16 nn) :=
  ⟨rfl, fun rest => congrArg (fun a => Except.ok (Instr.callImm16 a, rest)) (word_bytes nn)⟩

theorem adcAImm (n : Byte) : Statement (.adcAImm n) := ⟨rfl, fun _ => rfl⟩

theorem jpNCImm16 (nn : Addr) : Statement (.jpNCImm16 nn) :=
  ⟨rfl, fun rest => congrArg (fun a => Except.ok (Instr.jpNCImm16 a, rest)) (word_bytes nn)⟩

theorem callNCImm16 (nn : Addr) : Statement (.callNCImm16 nn) :=
  ⟨rfl, fun rest => congrArg (fun a => Except.ok (Instr.callNCImm16 a, rest)) (word_bytes nn)⟩

theorem subImm (n : Byte) : Statement (.subImm n) := ⟨rfl, fun _ => rfl⟩

theorem jpCImm16 (nn : Addr) : Statement (.jpCImm16 nn) :=
  ⟨rfl, fun rest => congrArg (fun a => Except.ok (Instr.jpCImm16 a, rest)) (word_bytes nn)⟩

theorem callCImm16 (nn : Addr) : Statement (.callCImm16 nn) :=
  ⟨rfl, fun rest => congrArg (fun a => Except.ok (Instr.callCImm16 a, rest)) (word_bytes nn)⟩

theorem sbcAImm (n : Byte) : Statement (.sbcAImm n) := ⟨rfl, fun _ => rfl⟩

theorem ldhAtImmA (n : Byte) : Statement (.ldhAtImmA n) := ⟨rfl, fun _ => rfl⟩

theorem andImm (n : Byte) : Statement (.andImm n) := ⟨rfl, fun _ => rfl⟩

theorem addSPDisp (e : Byte) : Statement (.addSPDisp e) := ⟨rfl, fun _ => rfl⟩

theorem ldAtImm16A (nn : Addr) : Statement (.ldAtImm16A nn) :=
  ⟨rfl, fun rest => congrArg (fun a => Except.ok (Instr.ldAtImm16A a, rest)) (word_bytes nn)⟩

theorem xorImm (n : Byte) : Statement (.xorImm n) := ⟨rfl, fun _ => rfl⟩

theorem ldhAAtImm (n : Byte) : Statement (.ldhAAtImm n) := ⟨rfl, fun _ => rfl⟩

theorem orImm (n : Byte) : Statement (.orImm n) := ⟨rfl, fun _ => rfl⟩

theorem ldHLSPDisp (e : Byte) : Statement (.ldHLSPDisp e) := ⟨rfl, fun _ => rfl⟩

theorem ldAAtImm16 (nn : Addr) : Statement (.ldAAtImm16 nn) :=
  ⟨rfl, fun rest => congrArg (fun a => Except.ok (Instr.ldAAtImm16 a, rest)) (word_bytes nn)⟩

theorem cpImm (n : Byte) : Statement (.cpImm n) := ⟨rfl, fun _ => rfl⟩

theorem nop : Statement .nop := ⟨rfl, fun _ => rfl⟩

theorem ldAtBCA : Statement .ldAtBCA := ⟨rfl, fun _ => rfl⟩

theorem incBC : Statement .incBC := ⟨rfl, fun _ => rfl⟩

theorem incB : Statement .incB := ⟨rfl, fun _ => rfl⟩

theorem decB : Statement .decB := ⟨rfl, fun _ => rfl⟩

theorem rlca : Statement .rlca := ⟨rfl, fun _ => rfl⟩

theorem addHLBC : Statement .addHLBC := ⟨rfl, fun _ => rfl⟩

theorem ldAAtBC : Statement .ldAAtBC := ⟨rfl, fun _ => rfl⟩

theorem decBC : Statement .decBC := ⟨rfl, fun _ => rfl⟩

theorem incC : Statement .incC := ⟨rfl, fun _ => rfl⟩

theorem decC : Statement .decC := ⟨rfl, fun _ => rfl⟩

theorem rrca : Statement .rrca := ⟨rfl, fun _ => rfl⟩

theorem ldAtDEA : Statement .ldAtDEA := ⟨rfl, fun _ => rfl⟩

theorem incDE : Statement .incDE := ⟨rfl, fun _ => rfl⟩

theorem incD : Statement .incD := ⟨rfl, fun _ => rfl⟩

theorem decD : Statement .decD := ⟨rfl, fun _ => rfl⟩

theorem rla : Statement .rla := ⟨rfl, fun _ => rfl⟩

theorem addHLDE : Statement .addHLDE := ⟨rfl, fun _ => rfl⟩

theorem ldAAtDE : Statement .ldAAtDE := ⟨rfl, fun _ => rfl⟩

theorem decDE : Statement .decDE := ⟨rfl, fun _ => rfl⟩

theorem incE : Statement .incE := ⟨rfl, fun _ => rfl⟩

theorem decE : Statement .decE := ⟨rfl, fun _ => rfl⟩

theorem rra : Statement .rra := ⟨rfl, fun _ => rfl⟩

theorem ldAtHLIncA : Statement .ldAtHLIncA := ⟨rfl, fun _ => rfl⟩

theorem incHL : Statement .incHL := ⟨rfl, fun _ => rfl⟩

theorem incH : Statement .incH := ⟨rfl, fun _ => rfl⟩

theorem decH : Statement .decH := ⟨rfl, fun _ => rfl⟩

theorem daa : Statement .daa := ⟨rfl, fun _ => rfl⟩

theorem addHLHL : Statement .addHLHL := ⟨rfl, fun _ => rfl⟩

theorem ldAAtHLInc : Statement .ldAAtHLInc := ⟨rfl, fun _ => rfl⟩

theorem decHL : Statement .decHL := ⟨rfl, fun _ => rfl⟩

theorem incL : Statement .incL := ⟨rfl, fun _ => rfl⟩

theorem decL : Statement .decL := ⟨rfl, fun _ => rfl⟩

theorem cpl : Statement .cpl := ⟨rfl, fun _ => rfl⟩

theorem ldAtHLDecA : Statement .ldAtHLDecA := ⟨rfl, fun _ => rfl⟩

theorem incSP : Statement .incSP := ⟨rfl, fun _ => rfl⟩

theorem incAtHL : Statement .incAtHL := ⟨rfl, fun _ => rfl⟩

theorem decAtHL : Statement .decAtHL := ⟨rfl, fun _ => rfl⟩

theorem scf : Statement .scf := ⟨rfl, fun _ => rfl⟩

theorem addHLSP : Statement .addHLSP := ⟨rfl, fun _ => rfl⟩

theorem ldAAtHLDec : Statement .ldAAtHLDec := ⟨rfl, fun _ => rfl⟩

theorem decSP : Statement .decSP := ⟨rfl, fun _ => rfl⟩

theorem incA : Statement .incA := ⟨rfl, fun _ => rfl⟩

theorem decA : Statement .decA := ⟨rfl, fun _ => rfl⟩

theorem ccf : Statement .ccf := ⟨rfl, fun _ => rfl⟩

theorem ldBB : Statement .ldBB := ⟨rfl, fun _ => rfl⟩

theorem ldBC : Statement .ldBC := ⟨rfl, fun _ => rfl⟩

theorem ldBD : Statement .ldBD := ⟨rfl, fun _ => rfl⟩

theorem ldBE : Statement .ldBE := ⟨rfl, fun _ => rfl⟩

theorem ldBH : Statement .ldBH := ⟨rfl, fun _ => rfl⟩

theorem ldBL : Statement .ldBL := ⟨rfl, fun _ => rfl⟩

theorem ldBAtHL : Statement .ldBAtHL := ⟨rfl, fun _ => rfl⟩

theorem ldBA : Statement .ldBA := ⟨rfl, fun _ => rfl⟩

theorem ldCB : Statement .ldCB := ⟨rfl, fun _ => rfl⟩

theorem ldCC : Statement .ldCC := ⟨rfl, fun _ => rfl⟩

theorem ldCD : Statement .ldCD := ⟨rfl, fun _ => rfl⟩

theorem ldCE : Statement .ldCE := ⟨rfl, fun _ => rfl⟩

theorem ldCH : Statement .ldCH := ⟨rfl, fun _ => rfl⟩

theorem ldCL : Statement .ldCL := ⟨rfl, fun _ => rfl⟩

theorem ldCAtHL : Statement .ldCAtHL := ⟨rfl, fun _ => rfl⟩

theorem ldCA : Statement .ldCA := ⟨rfl, fun _ => rfl⟩

theorem ldDB : Statement .ldDB := ⟨rfl, fun _ => rfl⟩

theorem ldDC : Statement .ldDC := ⟨rfl, fun _ => rfl⟩

theorem ldDD : Statement .ldDD := ⟨rfl, fun _ => rfl⟩

theorem ldDE : Statement .ldDE := ⟨rfl, fun _ => rfl⟩

theorem ldDH : Statement .ldDH := ⟨rfl, fun _ => rfl⟩

theorem ldDL : Statement .ldDL := ⟨rfl, fun _ => rfl⟩

theorem ldDAtHL : Statement .ldDAtHL := ⟨rfl, fun _ => rfl⟩

theorem ldDA : Statement .ldDA := ⟨rfl, fun _ => rfl⟩

theorem ldEB : Statement .ldEB := ⟨rfl, fun _ => rfl⟩

theorem ldEC : Statement .ldEC := ⟨rfl, fun _ => rfl⟩

theorem ldED : Statement .ldED := ⟨rfl, fun _ => rfl⟩

theorem ldEE : Statement .ldEE := ⟨rfl, fun _ => rfl⟩

theorem ldEH : Statement .ldEH := ⟨rfl, fun _ => rfl⟩

theorem ldEL : Statement .ldEL := ⟨rfl, fun _ => rfl⟩

theorem ldEAtHL : Statement .ldEAtHL := ⟨rfl, fun _ => rfl⟩

theorem ldEA : Statement .ldEA := ⟨rfl, fun _ => rfl⟩

theorem ldHB : Statement .ldHB := ⟨rfl, fun _ => rfl⟩

theorem ldHC : Statement .ldHC := ⟨rfl, fun _ => rfl⟩

theorem ldHD : Statement .ldHD := ⟨rfl, fun _ => rfl⟩

theorem ldHE : Statement .ldHE := ⟨rfl, fun _ => rfl⟩

theorem ldHH : Statement .ldHH := ⟨rfl, fun _ => rfl⟩

theorem ldHL : Statement .ldHL := ⟨rfl, fun _ => rfl⟩

theorem ldHAtHL : Statement .ldHAtHL := ⟨rfl, fun _ => rfl⟩

theorem ldHA : Statement .ldHA := ⟨rfl, fun _ => rfl⟩

theorem ldLB : Statement .ldLB := ⟨rfl, fun _ => rfl⟩

theorem ldLC : Statement .ldLC := ⟨rfl, fun _ => rfl⟩

theorem ldLD : Statement .ldLD := ⟨rfl, fun _ => rfl⟩

theorem ldLE : Statement .ldLE := ⟨rfl, fun _ => rfl⟩

theorem ldLH : Statement .ldLH := ⟨rfl, fun _ => rfl⟩

theorem ldLL : Statement .ldLL := ⟨rfl, fun _ => rfl⟩

theorem ldLAtHL : Statement .ldLAtHL := ⟨rfl, fun _ => rfl⟩

theorem ldLA : Statement .ldLA := ⟨rfl, fun _ => rfl⟩

theorem ldAtHLB : Statement .ldAtHLB := ⟨rfl, fun _ => rfl⟩

theorem ldAtHLC : Statement .ldAtHLC := ⟨rfl, fun _ => rfl⟩

theorem ldAtHLD : Statement .ldAtHLD := ⟨rfl, fun _ => rfl⟩

theorem ldAtHLE : Statement .ldAtHLE := ⟨rfl, fun _ => rfl⟩

theorem ldAtHLH : Statement .ldAtHLH := ⟨rfl, fun _ => rfl⟩

theorem ldAtHLL : Statement .ldAtHLL := ⟨rfl, fun _ => rfl⟩

theorem halt : Statement .halt := ⟨rfl, fun _ => rfl⟩

theorem ldAtHLA : Statement .ldAtHLA := ⟨rfl, fun _ => rfl⟩

theorem ldAB : Statement .ldAB := ⟨rfl, fun _ => rfl⟩

theorem ldAC : Statement .ldAC := ⟨rfl, fun _ => rfl⟩

theorem ldAD : Statement .ldAD := ⟨rfl, fun _ => rfl⟩

theorem ldAE : Statement .ldAE := ⟨rfl, fun _ => rfl⟩

theorem ldAH : Statement .ldAH := ⟨rfl, fun _ => rfl⟩

theorem ldAL : Statement .ldAL := ⟨rfl, fun _ => rfl⟩

theorem ldAAtHL : Statement .ldAAtHL := ⟨rfl, fun _ => rfl⟩

theorem ldAA : Statement .ldAA := ⟨rfl, fun _ => rfl⟩

theorem addAB : Statement .addAB := ⟨rfl, fun _ => rfl⟩

theorem addAC : Statement .addAC := ⟨rfl, fun _ => rfl⟩

theorem addAD : Statement .addAD := ⟨rfl, fun _ => rfl⟩

theorem addAE : Statement .addAE := ⟨rfl, fun _ => rfl⟩

theorem addAH : Statement .addAH := ⟨rfl, fun _ => rfl⟩

theorem addAL : Statement .addAL := ⟨rfl, fun _ => rfl⟩

theorem addAAtHL : Statement .addAAtHL := ⟨rfl, fun _ => rfl⟩

theorem addAA : Statement .addAA := ⟨rfl, fun _ => rfl⟩

theorem adcAB : Statement .adcAB := ⟨rfl, fun _ => rfl⟩

theorem adcAC : Statement .adcAC := ⟨rfl, fun _ => rfl⟩

theorem adcAD : Statement .adcAD := ⟨rfl, fun _ => rfl⟩

theorem adcAE : Statement .adcAE := ⟨rfl, fun _ => rfl⟩

theorem adcAH : Statement .adcAH := ⟨rfl, fun _ => rfl⟩

theorem adcAL : Statement .adcAL := ⟨rfl, fun _ => rfl⟩

theorem adcAAtHL : Statement .adcAAtHL := ⟨rfl, fun _ => rfl⟩

theorem adcAA : Statement .adcAA := ⟨rfl, fun _ => rfl⟩

theorem subB : Statement .subB := ⟨rfl, fun _ => rfl⟩

theorem subC : Statement .subC := ⟨rfl, fun _ => rfl⟩

theorem subD : Statement .subD := ⟨rfl, fun _ => rfl⟩

theorem subE : Statement .subE := ⟨rfl, fun _ => rfl⟩

theorem subH : Statement .subH := ⟨rfl, fun _ => rfl⟩

theorem subL : Statement .subL := ⟨rfl, fun _ => rfl⟩

theorem subAtHL : Statement .subAtHL := ⟨rfl, fun _ => rfl⟩

theorem subA : Statement .subA := ⟨rfl, fun _ => rfl⟩

theorem sbcAB : Statement .sbcAB := ⟨rfl, fun _ => rfl⟩

theorem sbcAC : Statement .sbcAC := ⟨rfl, fun _ => rfl⟩

theorem sbcAD : Statement .sbcAD := ⟨rfl, fun _ => rfl⟩

theorem sbcAE : Statement .sbcAE := ⟨rfl, fun _ => rfl⟩

theorem sbcAH : Statement .sbcAH := ⟨rfl, fun _ => rfl⟩

theorem sbcAL : Statement .sbcAL := ⟨rfl, fun _ => rfl⟩

theorem sbcAAtHL : Statement .sbcAAtHL := ⟨rfl, fun _ => rfl⟩

theorem sbcAA : Statement .sbcAA := ⟨rfl, fun _ => rfl⟩

theorem andB : Statement .andB := ⟨rfl, fun _ => rfl⟩

theorem andC : Statement .andC := ⟨rfl, fun _ => rfl⟩

theorem andD : Statement .andD := ⟨rfl, fun _ => rfl⟩

theorem andE : Statement .andE := ⟨rfl, fun _ => rfl⟩

theorem andH : Statement .andH := ⟨rfl, fun _ => rfl⟩

theorem andL : Statement .andL := ⟨rfl, fun _ => rfl⟩

theorem andAtHL : Statement .andAtHL := ⟨rfl, fun _ => rfl⟩

theorem andA : Statement .andA := ⟨rfl, fun _ => rfl⟩

theorem xorB : Statement .xorB := ⟨rfl, fun _ => rfl⟩

theorem xorC : Statement .xorC := ⟨rfl, fun _ => rfl⟩

theorem xorD : Statement .xorD := ⟨rfl, fun _ => rfl⟩

theorem xorE : Statement .xorE := ⟨rfl, fun _ => rfl⟩

theorem xorH : Statement .xorH := ⟨rfl, fun _ => rfl⟩

theorem xorL : Statement .xorL := ⟨rfl, fun _ => rfl⟩

theorem xorAtHL : Statement .xorAtHL := ⟨rfl, fun _ => rfl⟩

theorem xorA : Statement .xorA := ⟨rfl, fun _ => rfl⟩

theorem orB : Statement .orB := ⟨rfl, fun _ => rfl⟩

theorem orC : Statement .orC := ⟨rfl, fun _ => rfl⟩

theorem orD : Statement .orD := ⟨rfl, fun _ => rfl⟩

theorem orE : Statement .orE := ⟨rfl, fun _ => rfl⟩

theorem orH : Statement .orH := ⟨rfl, fun _ => rfl⟩

theorem orL : Statement .orL := ⟨rfl, fun _ => rfl⟩

theorem orAtHL : Statement .orAtHL := ⟨rfl, fun _ => rfl⟩

theorem orA : Statement .orA := ⟨rfl, fun _ => rfl⟩

theorem cpB : Statement .cpB := ⟨rfl, fun _ => rfl⟩

theorem cpC : Statement .cpC := ⟨rfl, fun _ => rfl⟩

theorem cpD : Statement .cpD := ⟨rfl, fun _ => rfl⟩

theorem cpE : Statement .cpE := ⟨rfl, fun _ => rfl⟩

theorem cpH : Statement .cpH := ⟨rfl, fun _ => rfl⟩

theorem cpL : Statement .cpL := ⟨rfl, fun _ => rfl⟩

theorem cpAtHL : Statement .cpAtHL := ⟨rfl, fun _ => rfl⟩

theorem cpA : Statement .cpA := ⟨rfl, fun _ => rfl⟩

theorem retNZ : Statement .retNZ := ⟨rfl, fun _ => rfl⟩

theorem popBC : Statement .popBC := ⟨rfl, fun _ => rfl⟩

theorem pushBC : Statement .pushBC := ⟨rfl, fun _ => rfl⟩

theorem rst00 : Statement .rst00 := ⟨rfl, fun _ => rfl⟩

theorem retZ : Statement .retZ := ⟨rfl, fun _ => rfl⟩

theorem ret : Statement .ret := ⟨rfl, fun _ => rfl⟩

theorem rst08 : Statement .rst08 := ⟨rfl, fun _ => rfl⟩

theorem retNC : Statement .retNC := ⟨rfl, fun _ => rfl⟩

theorem popDE : Statement .popDE := ⟨rfl, fun _ => rfl⟩

theorem illegalD3 : Statement .illegalD3 := ⟨rfl, fun _ => rfl⟩

theorem pushDE : Statement .pushDE := ⟨rfl, fun _ => rfl⟩

theorem rst10 : Statement .rst10 := ⟨rfl, fun _ => rfl⟩

theorem retC : Statement .retC := ⟨rfl, fun _ => rfl⟩

theorem reti : Statement .reti := ⟨rfl, fun _ => rfl⟩

theorem illegalDB : Statement .illegalDB := ⟨rfl, fun _ => rfl⟩

theorem illegalDD : Statement .illegalDD := ⟨rfl, fun _ => rfl⟩

theorem rst18 : Statement .rst18 := ⟨rfl, fun _ => rfl⟩

theorem popHL : Statement .popHL := ⟨rfl, fun _ => rfl⟩

theorem ldAtCA : Statement .ldAtCA := ⟨rfl, fun _ => rfl⟩

theorem illegalE3 : Statement .illegalE3 := ⟨rfl, fun _ => rfl⟩

theorem illegalE4 : Statement .illegalE4 := ⟨rfl, fun _ => rfl⟩

theorem pushHL : Statement .pushHL := ⟨rfl, fun _ => rfl⟩

theorem rst20 : Statement .rst20 := ⟨rfl, fun _ => rfl⟩

theorem jpHL : Statement .jpHL := ⟨rfl, fun _ => rfl⟩

theorem illegalEB : Statement .illegalEB := ⟨rfl, fun _ => rfl⟩

theorem illegalEC : Statement .illegalEC := ⟨rfl, fun _ => rfl⟩

theorem illegalED : Statement .illegalED := ⟨rfl, fun _ => rfl⟩

theorem rst28 : Statement .rst28 := ⟨rfl, fun _ => rfl⟩

theorem popAF : Statement .popAF := ⟨rfl, fun _ => rfl⟩

theorem ldAAtC : Statement .ldAAtC := ⟨rfl, fun _ => rfl⟩

theorem di : Statement .di := ⟨rfl, fun _ => rfl⟩

theorem illegalF4 : Statement .illegalF4 := ⟨rfl, fun _ => rfl⟩

theorem pushAF : Statement .pushAF := ⟨rfl, fun _ => rfl⟩

theorem rst30 : Statement .rst30 := ⟨rfl, fun _ => rfl⟩

theorem ldSPHL : Statement .ldSPHL := ⟨rfl, fun _ => rfl⟩

theorem ei : Statement .ei := ⟨rfl, fun _ => rfl⟩

theorem illegalFC : Statement .illegalFC := ⟨rfl, fun _ => rfl⟩

theorem illegalFD : Statement .illegalFD := ⟨rfl, fun _ => rfl⟩

theorem rst38 : Statement .rst38 := ⟨rfl, fun _ => rfl⟩

theorem rlcB : Statement .rlcB := ⟨rfl, fun _ => rfl⟩

theorem rlcC : Statement .rlcC := ⟨rfl, fun _ => rfl⟩

theorem rlcD : Statement .rlcD := ⟨rfl, fun _ => rfl⟩

theorem rlcE : Statement .rlcE := ⟨rfl, fun _ => rfl⟩

theorem rlcH : Statement .rlcH := ⟨rfl, fun _ => rfl⟩

theorem rlcL : Statement .rlcL := ⟨rfl, fun _ => rfl⟩

theorem rlcAtHL : Statement .rlcAtHL := ⟨rfl, fun _ => rfl⟩

theorem rlcA : Statement .rlcA := ⟨rfl, fun _ => rfl⟩

theorem rrcB : Statement .rrcB := ⟨rfl, fun _ => rfl⟩

theorem rrcC : Statement .rrcC := ⟨rfl, fun _ => rfl⟩

theorem rrcD : Statement .rrcD := ⟨rfl, fun _ => rfl⟩

theorem rrcE : Statement .rrcE := ⟨rfl, fun _ => rfl⟩

theorem rrcH : Statement .rrcH := ⟨rfl, fun _ => rfl⟩

theorem rrcL : Statement .rrcL := ⟨rfl, fun _ => rfl⟩

theorem rrcAtHL : Statement .rrcAtHL := ⟨rfl, fun _ => rfl⟩

theorem rrcA : Statement .rrcA := ⟨rfl, fun _ => rfl⟩

theorem rlB : Statement .rlB := ⟨rfl, fun _ => rfl⟩

theorem rlC : Statement .rlC := ⟨rfl, fun _ => rfl⟩

theorem rlD : Statement .rlD := ⟨rfl, fun _ => rfl⟩

theorem rlE : Statement .rlE := ⟨rfl, fun _ => rfl⟩

theorem rlH : Statement .rlH := ⟨rfl, fun _ => rfl⟩

theorem rlL : Statement .rlL := ⟨rfl, fun _ => rfl⟩

theorem rlAtHL : Statement .rlAtHL := ⟨rfl, fun _ => rfl⟩

theorem rlA : Statement .rlA := ⟨rfl, fun _ => rfl⟩

theorem rrB : Statement .rrB := ⟨rfl, fun _ => rfl⟩

theorem rrC : Statement .rrC := ⟨rfl, fun _ => rfl⟩

theorem rrD : Statement .rrD := ⟨rfl, fun _ => rfl⟩

theorem rrE : Statement .rrE := ⟨rfl, fun _ => rfl⟩

theorem rrH : Statement .rrH := ⟨rfl, fun _ => rfl⟩

theorem rrL : Statement .rrL := ⟨rfl, fun _ => rfl⟩

theorem rrAtHL : Statement .rrAtHL := ⟨rfl, fun _ => rfl⟩

theorem rrA : Statement .rrA := ⟨rfl, fun _ => rfl⟩

theorem slaB : Statement .slaB := ⟨rfl, fun _ => rfl⟩

theorem slaC : Statement .slaC := ⟨rfl, fun _ => rfl⟩

theorem slaD : Statement .slaD := ⟨rfl, fun _ => rfl⟩

theorem slaE : Statement .slaE := ⟨rfl, fun _ => rfl⟩

theorem slaH : Statement .slaH := ⟨rfl, fun _ => rfl⟩

theorem slaL : Statement .slaL := ⟨rfl, fun _ => rfl⟩

theorem slaAtHL : Statement .slaAtHL := ⟨rfl, fun _ => rfl⟩

theorem slaA : Statement .slaA := ⟨rfl, fun _ => rfl⟩

theorem sraB : Statement .sraB := ⟨rfl, fun _ => rfl⟩

theorem sraC : Statement .sraC := ⟨rfl, fun _ => rfl⟩

theorem sraD : Statement .sraD := ⟨rfl, fun _ => rfl⟩

theorem sraE : Statement .sraE := ⟨rfl, fun _ => rfl⟩

theorem sraH : Statement .sraH := ⟨rfl, fun _ => rfl⟩

theorem sraL : Statement .sraL := ⟨rfl, fun _ => rfl⟩

theorem sraAtHL : Statement .sraAtHL := ⟨rfl, fun _ => rfl⟩

theorem sraA : Statement .sraA := ⟨rfl, fun _ => rfl⟩

theorem swapB : Statement .swapB := ⟨rfl, fun _ => rfl⟩

theorem swapC : Statement .swapC := ⟨rfl, fun _ => rfl⟩

theorem swapD : Statement .swapD := ⟨rfl, fun _ => rfl⟩

theorem swapE : Statement .swapE := ⟨rfl, fun _ => rfl⟩

theorem swapH : Statement .swapH := ⟨rfl, fun _ => rfl⟩

theorem swapL : Statement .swapL := ⟨rfl, fun _ => rfl⟩

theorem swapAtHL : Statement .swapAtHL := ⟨rfl, fun _ => rfl⟩

theorem swapA : Statement .swapA := ⟨rfl, fun _ => rfl⟩

theorem srlB : Statement .srlB := ⟨rfl, fun _ => rfl⟩

theorem srlC : Statement .srlC := ⟨rfl, fun _ => rfl⟩

theorem srlD : Statement .srlD := ⟨rfl, fun _ => rfl⟩

theorem srlE : Statement .srlE := ⟨rfl, fun _ => rfl⟩

theorem srlH : Statement .srlH := ⟨rfl, fun _ => rfl⟩

theorem srlL : Statement .srlL := ⟨rfl, fun _ => rfl⟩

theorem srlAtHL : Statement .srlAtHL := ⟨rfl, fun _ => rfl⟩

theorem srlA : Statement .srlA := ⟨rfl, fun _ => rfl⟩

theorem bit0B : Statement .bit0B := ⟨rfl, fun _ => rfl⟩

theorem bit0C : Statement .bit0C := ⟨rfl, fun _ => rfl⟩

theorem bit0D : Statement .bit0D := ⟨rfl, fun _ => rfl⟩

theorem bit0E : Statement .bit0E := ⟨rfl, fun _ => rfl⟩

theorem bit0H : Statement .bit0H := ⟨rfl, fun _ => rfl⟩

theorem bit0L : Statement .bit0L := ⟨rfl, fun _ => rfl⟩

theorem bit0AtHL : Statement .bit0AtHL := ⟨rfl, fun _ => rfl⟩

theorem bit0A : Statement .bit0A := ⟨rfl, fun _ => rfl⟩

theorem bit1B : Statement .bit1B := ⟨rfl, fun _ => rfl⟩

theorem bit1C : Statement .bit1C := ⟨rfl, fun _ => rfl⟩

theorem bit1D : Statement .bit1D := ⟨rfl, fun _ => rfl⟩

theorem bit1E : Statement .bit1E := ⟨rfl, fun _ => rfl⟩

theorem bit1H : Statement .bit1H := ⟨rfl, fun _ => rfl⟩

theorem bit1L : Statement .bit1L := ⟨rfl, fun _ => rfl⟩

theorem bit1AtHL : Statement .bit1AtHL := ⟨rfl, fun _ => rfl⟩

theorem bit1A : Statement .bit1A := ⟨rfl, fun _ => rfl⟩

theorem bit2B : Statement .bit2B := ⟨rfl, fun _ => rfl⟩

theorem bit2C : Statement .bit2C := ⟨rfl, fun _ => rfl⟩

theorem bit2D : Statement .bit2D := ⟨rfl, fun _ => rfl⟩

theorem bit2E : Statement .bit2E := ⟨rfl, fun _ => rfl⟩

theorem bit2H : Statement .bit2H := ⟨rfl, fun _ => rfl⟩

theorem bit2L : Statement .bit2L := ⟨rfl, fun _ => rfl⟩

theorem bit2AtHL : Statement .bit2AtHL := ⟨rfl, fun _ => rfl⟩

theorem bit2A : Statement .bit2A := ⟨rfl, fun _ => rfl⟩

theorem bit3B : Statement .bit3B := ⟨rfl, fun _ => rfl⟩

theorem bit3C : Statement .bit3C := ⟨rfl, fun _ => rfl⟩

theorem bit3D : Statement .bit3D := ⟨rfl, fun _ => rfl⟩

theorem bit3E : Statement .bit3E := ⟨rfl, fun _ => rfl⟩

theorem bit3H : Statement .bit3H := ⟨rfl, fun _ => rfl⟩

theorem bit3L : Statement .bit3L := ⟨rfl, fun _ => rfl⟩

theorem bit3AtHL : Statement .bit3AtHL := ⟨rfl, fun _ => rfl⟩

theorem bit3A : Statement .bit3A := ⟨rfl, fun _ => rfl⟩

theorem bit4B : Statement .bit4B := ⟨rfl, fun _ => rfl⟩

theorem bit4C : Statement .bit4C := ⟨rfl, fun _ => rfl⟩

theorem bit4D : Statement .bit4D := ⟨rfl, fun _ => rfl⟩

theorem bit4E : Statement .bit4E := ⟨rfl, fun _ => rfl⟩

theorem bit4H : Statement .bit4H := ⟨rfl, fun _ => rfl⟩

theorem bit4L : Statement .bit4L := ⟨rfl, fun _ => rfl⟩

theorem bit4AtHL : Statement .bit4AtHL := ⟨rfl, fun _ => rfl⟩

theorem bit4A : Statement .bit4A := ⟨rfl, fun _ => rfl⟩

theorem bit5B : Statement .bit5B := ⟨rfl, fun _ => rfl⟩

theorem bit5C : Statement .bit5C := ⟨rfl, fun _ => rfl⟩

theorem bit5D : Statement .bit5D := ⟨rfl, fun _ => rfl⟩

theorem bit5E : Statement .bit5E := ⟨rfl, fun _ => rfl⟩

theorem bit5H : Statement .bit5H := ⟨rfl, fun _ => rfl⟩

theorem bit5L : Statement .bit5L := ⟨rfl, fun _ => rfl⟩

theorem bit5AtHL : Statement .bit5AtHL := ⟨rfl, fun _ => rfl⟩

theorem bit5A : Statement .bit5A := ⟨rfl, fun _ => rfl⟩

theorem bit6B : Statement .bit6B := ⟨rfl, fun _ => rfl⟩

theorem bit6C : Statement .bit6C := ⟨rfl, fun _ => rfl⟩

theorem bit6D : Statement .bit6D := ⟨rfl, fun _ => rfl⟩

theorem bit6E : Statement .bit6E := ⟨rfl, fun _ => rfl⟩

theorem bit6H : Statement .bit6H := ⟨rfl, fun _ => rfl⟩

theorem bit6L : Statement .bit6L := ⟨rfl, fun _ => rfl⟩

theorem bit6AtHL : Statement .bit6AtHL := ⟨rfl, fun _ => rfl⟩

theorem bit6A : Statement .bit6A := ⟨rfl, fun _ => rfl⟩

theorem bit7B : Statement .bit7B := ⟨rfl, fun _ => rfl⟩

theorem bit7C : Statement .bit7C := ⟨rfl, fun _ => rfl⟩

theorem bit7D : Statement .bit7D := ⟨rfl, fun _ => rfl⟩

theorem bit7E : Statement .bit7E := ⟨rfl, fun _ => rfl⟩

theorem bit7H : Statement .bit7H := ⟨rfl, fun _ => rfl⟩

theorem bit7L : Statement .bit7L := ⟨rfl, fun _ => rfl⟩

theorem bit7AtHL : Statement .bit7AtHL := ⟨rfl, fun _ => rfl⟩

theorem bit7A : Statement .bit7A := ⟨rfl, fun _ => rfl⟩

theorem res0B : Statement .res0B := ⟨rfl, fun _ => rfl⟩

theorem res0C : Statement .res0C := ⟨rfl, fun _ => rfl⟩

theorem res0D : Statement .res0D := ⟨rfl, fun _ => rfl⟩

theorem res0E : Statement .res0E := ⟨rfl, fun _ => rfl⟩

theorem res0H : Statement .res0H := ⟨rfl, fun _ => rfl⟩

theorem res0L : Statement .res0L := ⟨rfl, fun _ => rfl⟩

theorem res0AtHL : Statement .res0AtHL := ⟨rfl, fun _ => rfl⟩

theorem res0A : Statement .res0A := ⟨rfl, fun _ => rfl⟩

theorem res1B : Statement .res1B := ⟨rfl, fun _ => rfl⟩

theorem res1C : Statement .res1C := ⟨rfl, fun _ => rfl⟩

theorem res1D : Statement .res1D := ⟨rfl, fun _ => rfl⟩

theorem res1E : Statement .res1E := ⟨rfl, fun _ => rfl⟩

theorem res1H : Statement .res1H := ⟨rfl, fun _ => rfl⟩

theorem res1L : Statement .res1L := ⟨rfl, fun _ => rfl⟩

theorem res1AtHL : Statement .res1AtHL := ⟨rfl, fun _ => rfl⟩

theorem res1A : Statement .res1A := ⟨rfl, fun _ => rfl⟩

theorem res2B : Statement .res2B := ⟨rfl, fun _ => rfl⟩

theorem res2C : Statement .res2C := ⟨rfl, fun _ => rfl⟩

theorem res2D : Statement .res2D := ⟨rfl, fun _ => rfl⟩

theorem res2E : Statement .res2E := ⟨rfl, fun _ => rfl⟩

theorem res2H : Statement .res2H := ⟨rfl, fun _ => rfl⟩

theorem res2L : Statement .res2L := ⟨rfl, fun _ => rfl⟩

theorem res2AtHL : Statement .res2AtHL := ⟨rfl, fun _ => rfl⟩

theorem res2A : Statement .res2A := ⟨rfl, fun _ => rfl⟩

theorem res3B : Statement .res3B := ⟨rfl, fun _ => rfl⟩

theorem res3C : Statement .res3C := ⟨rfl, fun _ => rfl⟩

theorem res3D : Statement .res3D := ⟨rfl, fun _ => rfl⟩

theorem res3E : Statement .res3E := ⟨rfl, fun _ => rfl⟩

theorem res3H : Statement .res3H := ⟨rfl, fun _ => rfl⟩

theorem res3L : Statement .res3L := ⟨rfl, fun _ => rfl⟩

theorem res3AtHL : Statement .res3AtHL := ⟨rfl, fun _ => rfl⟩

theorem res3A : Statement .res3A := ⟨rfl, fun _ => rfl⟩

theorem res4B : Statement .res4B := ⟨rfl, fun _ => rfl⟩

theorem res4C : Statement .res4C := ⟨rfl, fun _ => rfl⟩

theorem res4D : Statement .res4D := ⟨rfl, fun _ => rfl⟩

theorem res4E : Statement .res4E := ⟨rfl, fun _ => rfl⟩

theorem res4H : Statement .res4H := ⟨rfl, fun _ => rfl⟩

theorem res4L : Statement .res4L := ⟨rfl, fun _ => rfl⟩

theorem res4AtHL : Statement .res4AtHL := ⟨rfl, fun _ => rfl⟩

theorem res4A : Statement .res4A := ⟨rfl, fun _ => rfl⟩

theorem res5B : Statement .res5B := ⟨rfl, fun _ => rfl⟩

theorem res5C : Statement .res5C := ⟨rfl, fun _ => rfl⟩

theorem res5D : Statement .res5D := ⟨rfl, fun _ => rfl⟩

theorem res5E : Statement .res5E := ⟨rfl, fun _ => rfl⟩

theorem res5H : Statement .res5H := ⟨rfl, fun _ => rfl⟩

theorem res5L : Statement .res5L := ⟨rfl, fun _ => rfl⟩

theorem res5AtHL : Statement .res5AtHL := ⟨rfl, fun _ => rfl⟩

theorem res5A : Statement .res5A := ⟨rfl, fun _ => rfl⟩

theorem res6B : Statement .res6B := ⟨rfl, fun _ => rfl⟩

theorem res6C : Statement .res6C := ⟨rfl, fun _ => rfl⟩

theorem res6D : Statement .res6D := ⟨rfl, fun _ => rfl⟩

theorem res6E : Statement .res6E := ⟨rfl, fun _ => rfl⟩

theorem res6H : Statement .res6H := ⟨rfl, fun _ => rfl⟩

theorem res6L : Statement .res6L := ⟨rfl, fun _ => rfl⟩

theorem res6AtHL : Statement .res6AtHL := ⟨rfl, fun _ => rfl⟩

theorem res6A : Statement .res6A := ⟨rfl, fun _ => rfl⟩

theorem res7B : Statement .res7B := ⟨rfl, fun _ => rfl⟩

theorem res7C : Statement .res7C := ⟨rfl, fun _ => rfl⟩

theorem res7D : Statement .res7D := ⟨rfl, fun _ => rfl⟩

theorem res7E : Statement .res7E := ⟨rfl, fun _ => rfl⟩

theorem res7H : Statement .res7H := ⟨rfl, fun _ => rfl⟩

theorem res7L : Statement .res7L := ⟨rfl, fun _ => rfl⟩

theorem res7AtHL : Statement .res7AtHL := ⟨rfl, fun _ => rfl⟩

theorem res7A : Statement .res7A := ⟨rfl, fun _ => rfl⟩

theorem set0B : Statement .set0B := ⟨rfl, fun _ => rfl⟩

theorem set0C : Statement .set0C := ⟨rfl, fun _ => rfl⟩

theorem set0D : Statement .set0D := ⟨rfl, fun _ => rfl⟩

theorem set0E : Statement .set0E := ⟨rfl, fun _ => rfl⟩

theorem set0H : Statement .set0H := ⟨rfl, fun _ => rfl⟩

theorem set0L : Statement .set0L := ⟨rfl, fun _ => rfl⟩

theorem set0AtHL : Statement .set0AtHL := ⟨rfl, fun _ => rfl⟩

theorem set0A : Statement .set0A := ⟨rfl, fun _ => rfl⟩

theorem set1B : Statement .set1B := ⟨rfl, fun _ => rfl⟩

theorem set1C : Statement .set1C := ⟨rfl, fun _ => rfl⟩

theorem set1D : Statement .set1D := ⟨rfl, fun _ => rfl⟩

theorem set1E : Statement .set1E := ⟨rfl, fun _ => rfl⟩

theorem set1H : Statement .set1H := ⟨rfl, fun _ => rfl⟩

theorem set1L : Statement .set1L := ⟨rfl, fun _ => rfl⟩

theorem set1AtHL : Statement .set1AtHL := ⟨rfl, fun _ => rfl⟩

theorem set1A : Statement .set1A := ⟨rfl, fun _ => rfl⟩

theorem set2B : Statement .set2B := ⟨rfl, fun _ => rfl⟩

theorem set2C : Statement .set2C := ⟨rfl, fun _ => rfl⟩

theorem set2D : Statement .set2D := ⟨rfl, fun _ => rfl⟩

theorem set2E : Statement .set2E := ⟨rfl, fun _ => rfl⟩

theorem set2H : Statement .set2H := ⟨rfl, fun _ => rfl⟩

theorem set2L : Statement .set2L := ⟨rfl, fun _ => rfl⟩

theorem set2AtHL : Statement .set2AtHL := ⟨rfl, fun _ => rfl⟩

theorem set2A : Statement .set2A := ⟨rfl, fun _ => rfl⟩

theorem set3B : Statement .set3B := ⟨rfl, fun _ => rfl⟩

theorem set3C : Statement .set3C := ⟨rfl, fun _ => rfl⟩

theorem set3D : Statement .set3D := ⟨rfl, fun _ => rfl⟩

theorem set3E : Statement .set3E := ⟨rfl, fun _ => rfl⟩

theorem set3H : Statement .set3H := ⟨rfl, fun _ => rfl⟩

theorem set3L : Statement .set3L := ⟨rfl, fun _ => rfl⟩

theorem set3AtHL : Statement .set3AtHL := ⟨rfl, fun _ => rfl⟩

theorem set3A : Statement .set3A := ⟨rfl, fun _ => rfl⟩

theorem set4B : Statement .set4B := ⟨rfl, fun _ => rfl⟩

theorem set4C : Statement .set4C := ⟨rfl, fun _ => rfl⟩

theorem set4D : Statement .set4D := ⟨rfl, fun _ => rfl⟩

theorem set4E : Statement .set4E := ⟨rfl, fun _ => rfl⟩

theorem set4H : Statement .set4H := ⟨rfl, fun _ => rfl⟩

theorem set4L : Statement .set4L := ⟨rfl, fun _ => rfl⟩

theorem set4AtHL : Statement .set4AtHL := ⟨rfl, fun _ => rfl⟩

theorem set4A : Statement .set4A := ⟨rfl, fun _ => rfl⟩

theorem set5B : Statement .set5B := ⟨rfl, fun _ => rfl⟩

theorem set5C : Statement .set5C := ⟨rfl, fun _ => rfl⟩

theorem set5D : Statement .set5D := ⟨rfl, fun _ => rfl⟩

theorem set5E : Statement .set5E := ⟨rfl, fun _ => rfl⟩

theorem set5H : Statement .set5H := ⟨rfl, fun _ => rfl⟩

theorem set5L : Statement .set5L := ⟨rfl, fun _ => rfl⟩

theorem set5AtHL : Statement .set5AtHL := ⟨rfl, fun _ => rfl⟩

theorem set5A : Statement .set5A := ⟨rfl, fun _ => rfl⟩

theorem set6B : Statement .set6B := ⟨rfl, fun _ => rfl⟩

theorem set6C : Statement .set6C := ⟨rfl, fun _ => rfl⟩

theorem set6D : Statement .set6D := ⟨rfl, fun _ => rfl⟩

theorem set6E : Statement .set6E := ⟨rfl, fun _ => rfl⟩

theorem set6H : Statement .set6H := ⟨rfl, fun _ => rfl⟩

theorem set6L : Statement .set6L := ⟨rfl, fun _ => rfl⟩

theorem set6AtHL : Statement .set6AtHL := ⟨rfl, fun _ => rfl⟩

theorem set6A : Statement .set6A := ⟨rfl, fun _ => rfl⟩

theorem set7B : Statement .set7B := ⟨rfl, fun _ => rfl⟩

theorem set7C : Statement .set7C := ⟨rfl, fun _ => rfl⟩

theorem set7D : Statement .set7D := ⟨rfl, fun _ => rfl⟩

theorem set7E : Statement .set7E := ⟨rfl, fun _ => rfl⟩

theorem set7H : Statement .set7H := ⟨rfl, fun _ => rfl⟩

theorem set7L : Statement .set7L := ⟨rfl, fun _ => rfl⟩

theorem set7AtHL : Statement .set7AtHL := ⟨rfl, fun _ => rfl⟩

theorem set7A : Statement .set7A := ⟨rfl, fun _ => rfl⟩

end Sys2Proof.Laws.RoundTrip
end

