-- ==== Sys2Proof/Laws/State.lean ====
section
/-! SUPPORT. For each plain update of the state, the value of every field after it. -/

namespace Sys2Proof.Machine

variable (s : State)

@[simp] theorem setReg_fields (r : Reg8) (v : Byte) :
    (s.setReg r v).model = s.model ∧ (s.setReg r v).agbRegs = s.agbRegs ∧ (s.setReg r v).bios = s.bios ∧
    (s.setReg r v).loaded = s.loaded ∧ (s.setReg r v).cpu = s.cpu.setReg r v ∧ (s.setReg r v).ie = s.ie ∧
    (s.setReg r v).irq = s.irq ∧ (s.setReg r v).timer = s.timer ∧ (s.setReg r v).serial = s.serial ∧
    (s.setReg r v).joypad = s.joypad ∧ (s.setReg r v).oamDma = s.oamDma ∧ (s.setReg r v).hdma = s.hdma ∧
    (s.setReg r v).ppu = s.ppu ∧ (s.setReg r v).doubleSpeed = s.doubleSpeed ∧ (s.setReg r v).speedArmed = s.speedArmed ∧
    (s.setReg r v).vbk = s.vbk ∧ (s.setReg r v).svbk = s.svbk ∧ (s.setReg r v).bootMapped = s.bootMapped ∧
    (s.setReg r v).bootDmg = s.bootDmg ∧ (s.setReg r v).bootCgb = s.bootCgb ∧ (s.setReg r v).bootRom = s.bootRom ∧
    (s.setReg r v).cart = s.cart ∧ (s.setReg r v).rtc = s.rtc ∧ (s.setReg r v).rom = s.rom ∧ (s.setReg r v).vram = s.vram ∧
    (s.setReg r v).wram = s.wram ∧ (s.setReg r v).oam = s.oam ∧ (s.setReg r v).hram = s.hram ∧
    (s.setReg r v).cartRam = s.cartRam ∧ (s.setReg r v).io = s.io ∧ (s.setReg r v).ioPowerOn = s.ioPowerOn ∧
    (s.setReg r v).cycles = s.cycles ∧ (s.setReg r v).baseTicks = s.baseTicks ∧ (s.setReg r v).draws = s.draws ∧
    (s.setReg r v).host = s.host := by
  and_intros <;> rfl

@[simp] theorem setFlags_fields (v : Byte) :
    (s.setFlags v).model = s.model ∧ (s.setFlags v).agbRegs = s.agbRegs ∧ (s.setFlags v).bios = s.bios ∧
    (s.setFlags v).loaded = s.loaded ∧ (s.setFlags v).cpu = s.cpu.setFlags v ∧ (s.setFlags v).ie = s.ie ∧
    (s.setFlags v).irq = s.irq ∧ (s.setFlags v).timer = s.timer ∧ (s.setFlags v).serial = s.serial ∧
    (s.setFlags v).joypad = s.joypad ∧ (s.setFlags v).oamDma = s.oamDma ∧ (s.setFlags v).hdma = s.hdma ∧
    (s.setFlags v).ppu = s.ppu ∧ (s.setFlags v).doubleSpeed = s.doubleSpeed ∧ (s.setFlags v).speedArmed = s.speedArmed ∧
    (s.setFlags v).vbk = s.vbk ∧ (s.setFlags v).svbk = s.svbk ∧ (s.setFlags v).bootMapped = s.bootMapped ∧
    (s.setFlags v).bootDmg = s.bootDmg ∧ (s.setFlags v).bootCgb = s.bootCgb ∧ (s.setFlags v).bootRom = s.bootRom ∧
    (s.setFlags v).cart = s.cart ∧ (s.setFlags v).rtc = s.rtc ∧ (s.setFlags v).rom = s.rom ∧ (s.setFlags v).vram = s.vram ∧
    (s.setFlags v).wram = s.wram ∧ (s.setFlags v).oam = s.oam ∧ (s.setFlags v).hram = s.hram ∧
    (s.setFlags v).cartRam = s.cartRam ∧ (s.setFlags v).io = s.io ∧ (s.setFlags v).ioPowerOn = s.ioPowerOn ∧
    (s.setFlags v).cycles = s.cycles ∧ (s.setFlags v).baseTicks = s.baseTicks ∧ (s.setFlags v).draws = s.draws ∧
    (s.setFlags v).host = s.host := by
  and_intros <;> rfl

@[simp] theorem putFlags_fields (z n h c : Bool) :
    (s.putFlags z n h c).model = s.model ∧ (s.putFlags z n h c).agbRegs = s.agbRegs ∧ (s.putFlags z n h c).bios = s.bios ∧
    (s.putFlags z n h c).loaded = s.loaded ∧ (s.putFlags z n h c).cpu = s.cpu.setFlags (mkFlags z n h c) ∧
    (s.putFlags z n h c).ie = s.ie ∧ (s.putFlags z n h c).irq = s.irq ∧ (s.putFlags z n h c).timer = s.timer ∧
    (s.putFlags z n h c).serial = s.serial ∧ (s.putFlags z n h c).joypad = s.joypad ∧ (s.putFlags z n h c).oamDma = s.oamDma ∧
    (s.putFlags z n h c).hdma = s.hdma ∧ (s.putFlags z n h c).ppu = s.ppu ∧ (s.putFlags z n h c).doubleSpeed = s.doubleSpeed ∧
    (s.putFlags z n h c).speedArmed = s.speedArmed ∧ (s.putFlags z n h c).vbk = s.vbk ∧ (s.putFlags z n h c).svbk = s.svbk ∧
    (s.putFlags z n h c).bootMapped = s.bootMapped ∧ (s.putFlags z n h c).bootDmg = s.bootDmg ∧
    (s.putFlags z n h c).bootCgb = s.bootCgb ∧ (s.putFlags z n h c).bootRom = s.bootRom ∧ (s.putFlags z n h c).cart = s.cart ∧
    (s.putFlags z n h c).rtc = s.rtc ∧ (s.putFlags z n h c).rom = s.rom ∧ (s.putFlags z n h c).vram = s.vram ∧
    (s.putFlags z n h c).wram = s.wram ∧ (s.putFlags z n h c).oam = s.oam ∧ (s.putFlags z n h c).hram = s.hram ∧
    (s.putFlags z n h c).cartRam = s.cartRam ∧ (s.putFlags z n h c).io = s.io ∧ (s.putFlags z n h c).ioPowerOn = s.ioPowerOn ∧
    (s.putFlags z n h c).cycles = s.cycles ∧ (s.putFlags z n h c).baseTicks = s.baseTicks ∧
    (s.putFlags z n h c).draws = s.draws ∧ (s.putFlags z n h c).host = s.host := by
  and_intros <;> rfl

@[simp] theorem flagsOf_fields (r : Alu) :
    (s.flagsOf r).model = s.model ∧ (s.flagsOf r).agbRegs = s.agbRegs ∧ (s.flagsOf r).bios = s.bios ∧
    (s.flagsOf r).loaded = s.loaded ∧ (s.flagsOf r).cpu = s.cpu.setFlags (mkFlags r.z r.n r.h r.c) ∧ (s.flagsOf r).ie = s.ie ∧
    (s.flagsOf r).irq = s.irq ∧ (s.flagsOf r).timer = s.timer ∧ (s.flagsOf r).serial = s.serial ∧
    (s.flagsOf r).joypad = s.joypad ∧ (s.flagsOf r).oamDma = s.oamDma ∧ (s.flagsOf r).hdma = s.hdma ∧
    (s.flagsOf r).ppu = s.ppu ∧ (s.flagsOf r).doubleSpeed = s.doubleSpeed ∧ (s.flagsOf r).speedArmed = s.speedArmed ∧
    (s.flagsOf r).vbk = s.vbk ∧ (s.flagsOf r).svbk = s.svbk ∧ (s.flagsOf r).bootMapped = s.bootMapped ∧
    (s.flagsOf r).bootDmg = s.bootDmg ∧ (s.flagsOf r).bootCgb = s.bootCgb ∧ (s.flagsOf r).bootRom = s.bootRom ∧
    (s.flagsOf r).cart = s.cart ∧ (s.flagsOf r).rtc = s.rtc ∧ (s.flagsOf r).rom = s.rom ∧ (s.flagsOf r).vram = s.vram ∧
    (s.flagsOf r).wram = s.wram ∧ (s.flagsOf r).oam = s.oam ∧ (s.flagsOf r).hram = s.hram ∧ (s.flagsOf r).cartRam = s.cartRam ∧
    (s.flagsOf r).io = s.io ∧ (s.flagsOf r).ioPowerOn = s.ioPowerOn ∧ (s.flagsOf r).cycles = s.cycles ∧
    (s.flagsOf r).baseTicks = s.baseTicks ∧ (s.flagsOf r).draws = s.draws ∧ (s.flagsOf r).host = s.host := by
  and_intros <;> rfl

@[simp] theorem setSp_fields (v : Addr) :
    (s.setSp v).model = s.model ∧ (s.setSp v).agbRegs = s.agbRegs ∧ (s.setSp v).bios = s.bios ∧ (s.setSp v).loaded = s.loaded ∧
    (s.setSp v).cpu = { s.cpu with sp := v } ∧ (s.setSp v).ie = s.ie ∧ (s.setSp v).irq = s.irq ∧ (s.setSp v).timer = s.timer ∧
    (s.setSp v).serial = s.serial ∧ (s.setSp v).joypad = s.joypad ∧ (s.setSp v).oamDma = s.oamDma ∧ (s.setSp v).hdma = s.hdma ∧
    (s.setSp v).ppu = s.ppu ∧ (s.setSp v).doubleSpeed = s.doubleSpeed ∧ (s.setSp v).speedArmed = s.speedArmed ∧
    (s.setSp v).vbk = s.vbk ∧ (s.setSp v).svbk = s.svbk ∧ (s.setSp v).bootMapped = s.bootMapped ∧
    (s.setSp v).bootDmg = s.bootDmg ∧ (s.setSp v).bootCgb = s.bootCgb ∧ (s.setSp v).bootRom = s.bootRom ∧
    (s.setSp v).cart = s.cart ∧ (s.setSp v).rtc = s.rtc ∧ (s.setSp v).rom = s.rom ∧ (s.setSp v).vram = s.vram ∧
    (s.setSp v).wram = s.wram ∧ (s.setSp v).oam = s.oam ∧ (s.setSp v).hram = s.hram ∧ (s.setSp v).cartRam = s.cartRam ∧
    (s.setSp v).io = s.io ∧ (s.setSp v).ioPowerOn = s.ioPowerOn ∧ (s.setSp v).cycles = s.cycles ∧
    (s.setSp v).baseTicks = s.baseTicks ∧ (s.setSp v).draws = s.draws ∧ (s.setSp v).host = s.host := by
  and_intros <;> rfl

@[simp] theorem setPc_fields (v : Addr) :
    (s.setPc v).model = s.model ∧ (s.setPc v).agbRegs = s.agbRegs ∧ (s.setPc v).bios = s.bios ∧ (s.setPc v).loaded = s.loaded ∧
    (s.setPc v).cpu = { s.cpu with pc := v } ∧ (s.setPc v).ie = s.ie ∧ (s.setPc v).irq = s.irq ∧ (s.setPc v).timer = s.timer ∧
    (s.setPc v).serial = s.serial ∧ (s.setPc v).joypad = s.joypad ∧ (s.setPc v).oamDma = s.oamDma ∧ (s.setPc v).hdma = s.hdma ∧
    (s.setPc v).ppu = s.ppu ∧ (s.setPc v).doubleSpeed = s.doubleSpeed ∧ (s.setPc v).speedArmed = s.speedArmed ∧
    (s.setPc v).vbk = s.vbk ∧ (s.setPc v).svbk = s.svbk ∧ (s.setPc v).bootMapped = s.bootMapped ∧
    (s.setPc v).bootDmg = s.bootDmg ∧ (s.setPc v).bootCgb = s.bootCgb ∧ (s.setPc v).bootRom = s.bootRom ∧
    (s.setPc v).cart = s.cart ∧ (s.setPc v).rtc = s.rtc ∧ (s.setPc v).rom = s.rom ∧ (s.setPc v).vram = s.vram ∧
    (s.setPc v).wram = s.wram ∧ (s.setPc v).oam = s.oam ∧ (s.setPc v).hram = s.hram ∧ (s.setPc v).cartRam = s.cartRam ∧
    (s.setPc v).io = s.io ∧ (s.setPc v).ioPowerOn = s.ioPowerOn ∧ (s.setPc v).cycles = s.cycles ∧
    (s.setPc v).baseTicks = s.baseTicks ∧ (s.setPc v).draws = s.draws ∧ (s.setPc v).host = s.host := by
  and_intros <;> rfl

@[simp] theorem setPair_fields (p : Pair) (v : Addr) :
    (s.setPair p v).model = s.model ∧ (s.setPair p v).agbRegs = s.agbRegs ∧ (s.setPair p v).bios = s.bios ∧
    (s.setPair p v).loaded = s.loaded ∧ (s.setPair p v).cpu = s.cpu.setPair p v ∧ (s.setPair p v).ie = s.ie ∧
    (s.setPair p v).irq = s.irq ∧ (s.setPair p v).timer = s.timer ∧ (s.setPair p v).serial = s.serial ∧
    (s.setPair p v).joypad = s.joypad ∧ (s.setPair p v).oamDma = s.oamDma ∧ (s.setPair p v).hdma = s.hdma ∧
    (s.setPair p v).ppu = s.ppu ∧ (s.setPair p v).doubleSpeed = s.doubleSpeed ∧ (s.setPair p v).speedArmed = s.speedArmed ∧
    (s.setPair p v).vbk = s.vbk ∧ (s.setPair p v).svbk = s.svbk ∧ (s.setPair p v).bootMapped = s.bootMapped ∧
    (s.setPair p v).bootDmg = s.bootDmg ∧ (s.setPair p v).bootCgb = s.bootCgb ∧ (s.setPair p v).bootRom = s.bootRom ∧
    (s.setPair p v).cart = s.cart ∧ (s.setPair p v).rtc = s.rtc ∧ (s.setPair p v).rom = s.rom ∧ (s.setPair p v).vram = s.vram ∧
    (s.setPair p v).wram = s.wram ∧ (s.setPair p v).oam = s.oam ∧ (s.setPair p v).hram = s.hram ∧
    (s.setPair p v).cartRam = s.cartRam ∧ (s.setPair p v).io = s.io ∧ (s.setPair p v).ioPowerOn = s.ioPowerOn ∧
    (s.setPair p v).cycles = s.cycles ∧ (s.setPair p v).baseTicks = s.baseTicks ∧ (s.setPair p v).draws = s.draws ∧
    (s.setPair p v).host = s.host := by
  and_intros <;> rfl

@[simp] theorem setHl_fields (v : Addr) :
    (s.setHl v).model = s.model ∧ (s.setHl v).agbRegs = s.agbRegs ∧ (s.setHl v).bios = s.bios ∧ (s.setHl v).loaded = s.loaded ∧
    (s.setHl v).cpu = s.cpu.setPair .hl v ∧ (s.setHl v).ie = s.ie ∧ (s.setHl v).irq = s.irq ∧ (s.setHl v).timer = s.timer ∧
    (s.setHl v).serial = s.serial ∧ (s.setHl v).joypad = s.joypad ∧ (s.setHl v).oamDma = s.oamDma ∧ (s.setHl v).hdma = s.hdma ∧
    (s.setHl v).ppu = s.ppu ∧ (s.setHl v).doubleSpeed = s.doubleSpeed ∧ (s.setHl v).speedArmed = s.speedArmed ∧
    (s.setHl v).vbk = s.vbk ∧ (s.setHl v).svbk = s.svbk ∧ (s.setHl v).bootMapped = s.bootMapped ∧
    (s.setHl v).bootDmg = s.bootDmg ∧ (s.setHl v).bootCgb = s.bootCgb ∧ (s.setHl v).bootRom = s.bootRom ∧
    (s.setHl v).cart = s.cart ∧ (s.setHl v).rtc = s.rtc ∧ (s.setHl v).rom = s.rom ∧ (s.setHl v).vram = s.vram ∧
    (s.setHl v).wram = s.wram ∧ (s.setHl v).oam = s.oam ∧ (s.setHl v).hram = s.hram ∧ (s.setHl v).cartRam = s.cartRam ∧
    (s.setHl v).io = s.io ∧ (s.setHl v).ioPowerOn = s.ioPowerOn ∧ (s.setHl v).cycles = s.cycles ∧
    (s.setHl v).baseTicks = s.baseTicks ∧ (s.setHl v).draws = s.draws ∧ (s.setHl v).host = s.host := by
  and_intros <;> rfl

@[simp] theorem setStackPair_fields (q : StackPair) (v : Addr) :
    (s.setStackPair q v).model = s.model ∧ (s.setStackPair q v).agbRegs = s.agbRegs ∧ (s.setStackPair q v).bios = s.bios ∧
    (s.setStackPair q v).loaded = s.loaded ∧ (s.setStackPair q v).cpu = s.cpu.setStackPair q v ∧
    (s.setStackPair q v).ie = s.ie ∧ (s.setStackPair q v).irq = s.irq ∧ (s.setStackPair q v).timer = s.timer ∧
    (s.setStackPair q v).serial = s.serial ∧ (s.setStackPair q v).joypad = s.joypad ∧ (s.setStackPair q v).oamDma = s.oamDma ∧
    (s.setStackPair q v).hdma = s.hdma ∧ (s.setStackPair q v).ppu = s.ppu ∧ (s.setStackPair q v).doubleSpeed = s.doubleSpeed ∧
    (s.setStackPair q v).speedArmed = s.speedArmed ∧ (s.setStackPair q v).vbk = s.vbk ∧ (s.setStackPair q v).svbk = s.svbk ∧
    (s.setStackPair q v).bootMapped = s.bootMapped ∧ (s.setStackPair q v).bootDmg = s.bootDmg ∧
    (s.setStackPair q v).bootCgb = s.bootCgb ∧ (s.setStackPair q v).bootRom = s.bootRom ∧ (s.setStackPair q v).cart = s.cart ∧
    (s.setStackPair q v).rtc = s.rtc ∧ (s.setStackPair q v).rom = s.rom ∧ (s.setStackPair q v).vram = s.vram ∧
    (s.setStackPair q v).wram = s.wram ∧ (s.setStackPair q v).oam = s.oam ∧ (s.setStackPair q v).hram = s.hram ∧
    (s.setStackPair q v).cartRam = s.cartRam ∧ (s.setStackPair q v).io = s.io ∧ (s.setStackPair q v).ioPowerOn = s.ioPowerOn ∧
    (s.setStackPair q v).cycles = s.cycles ∧ (s.setStackPair q v).baseTicks = s.baseTicks ∧
    (s.setStackPair q v).draws = s.draws ∧ (s.setStackPair q v).host = s.host := by
  and_intros <;> rfl

@[simp] theorem lockUp_fields :
    (s.lockUp).model = s.model ∧ (s.lockUp).agbRegs = s.agbRegs ∧ (s.lockUp).bios = s.bios ∧ (s.lockUp).loaded = s.loaded ∧
    (s.lockUp).cpu = { s.cpu with lockedUp := true } ∧ (s.lockUp).ie = s.ie ∧ (s.lockUp).irq = s.irq ∧
    (s.lockUp).timer = s.timer ∧ (s.lockUp).serial = s.serial ∧ (s.lockUp).joypad = s.joypad ∧ (s.lockUp).oamDma = s.oamDma ∧
    (s.lockUp).hdma = s.hdma ∧ (s.lockUp).ppu = s.ppu ∧ (s.lockUp).doubleSpeed = s.doubleSpeed ∧
    (s.lockUp).speedArmed = s.speedArmed ∧ (s.lockUp).vbk = s.vbk ∧ (s.lockUp).svbk = s.svbk ∧
    (s.lockUp).bootMapped = s.bootMapped ∧ (s.lockUp).bootDmg = s.bootDmg ∧ (s.lockUp).bootCgb = s.bootCgb ∧
    (s.lockUp).bootRom = s.bootRom ∧ (s.lockUp).cart = s.cart ∧ (s.lockUp).rtc = s.rtc ∧ (s.lockUp).rom = s.rom ∧
    (s.lockUp).vram = s.vram ∧ (s.lockUp).wram = s.wram ∧ (s.lockUp).oam = s.oam ∧ (s.lockUp).hram = s.hram ∧
    (s.lockUp).cartRam = s.cartRam ∧ (s.lockUp).io = s.io ∧ (s.lockUp).ioPowerOn = s.ioPowerOn ∧ (s.lockUp).cycles = s.cycles ∧
    (s.lockUp).baseTicks = s.baseTicks ∧ (s.lockUp).draws = s.draws ∧ (s.lockUp).host = s.host := by
  and_intros <;> rfl

@[simp] theorem enableInterrupts_fields :
    (s.enableInterrupts).model = s.model ∧ (s.enableInterrupts).agbRegs = s.agbRegs ∧ (s.enableInterrupts).bios = s.bios ∧
    (s.enableInterrupts).loaded = s.loaded ∧ (s.enableInterrupts).cpu = { s.cpu with imePending := true } ∧
    (s.enableInterrupts).ie = s.ie ∧ (s.enableInterrupts).irq = s.irq ∧ (s.enableInterrupts).timer = s.timer ∧
    (s.enableInterrupts).serial = s.serial ∧ (s.enableInterrupts).joypad = s.joypad ∧ (s.enableInterrupts).oamDma = s.oamDma ∧
    (s.enableInterrupts).hdma = s.hdma ∧ (s.enableInterrupts).ppu = s.ppu ∧ (s.enableInterrupts).doubleSpeed = s.doubleSpeed ∧
    (s.enableInterrupts).speedArmed = s.speedArmed ∧ (s.enableInterrupts).vbk = s.vbk ∧ (s.enableInterrupts).svbk = s.svbk ∧
    (s.enableInterrupts).bootMapped = s.bootMapped ∧ (s.enableInterrupts).bootDmg = s.bootDmg ∧
    (s.enableInterrupts).bootCgb = s.bootCgb ∧ (s.enableInterrupts).bootRom = s.bootRom ∧ (s.enableInterrupts).cart = s.cart ∧
    (s.enableInterrupts).rtc = s.rtc ∧ (s.enableInterrupts).rom = s.rom ∧ (s.enableInterrupts).vram = s.vram ∧
    (s.enableInterrupts).wram = s.wram ∧ (s.enableInterrupts).oam = s.oam ∧ (s.enableInterrupts).hram = s.hram ∧
    (s.enableInterrupts).cartRam = s.cartRam ∧ (s.enableInterrupts).io = s.io ∧ (s.enableInterrupts).ioPowerOn = s.ioPowerOn ∧
    (s.enableInterrupts).cycles = s.cycles ∧ (s.enableInterrupts).baseTicks = s.baseTicks ∧
    (s.enableInterrupts).draws = s.draws ∧ (s.enableInterrupts).host = s.host := by
  and_intros <;> rfl

@[simp] theorem disableInterrupts_fields :
    (s.disableInterrupts).model = s.model ∧ (s.disableInterrupts).agbRegs = s.agbRegs ∧ (s.disableInterrupts).bios = s.bios ∧
    (s.disableInterrupts).loaded = s.loaded ∧ (s.disableInterrupts).cpu = { s.cpu with ime := false, imePending := false } ∧
    (s.disableInterrupts).ie = s.ie ∧ (s.disableInterrupts).irq = s.irq ∧ (s.disableInterrupts).timer = s.timer ∧
    (s.disableInterrupts).serial = s.serial ∧ (s.disableInterrupts).joypad = s.joypad ∧
    (s.disableInterrupts).oamDma = s.oamDma ∧ (s.disableInterrupts).hdma = s.hdma ∧ (s.disableInterrupts).ppu = s.ppu ∧
    (s.disableInterrupts).doubleSpeed = s.doubleSpeed ∧ (s.disableInterrupts).speedArmed = s.speedArmed ∧
    (s.disableInterrupts).vbk = s.vbk ∧ (s.disableInterrupts).svbk = s.svbk ∧ (s.disableInterrupts).bootMapped = s.bootMapped ∧
    (s.disableInterrupts).bootDmg = s.bootDmg ∧ (s.disableInterrupts).bootCgb = s.bootCgb ∧
    (s.disableInterrupts).bootRom = s.bootRom ∧ (s.disableInterrupts).cart = s.cart ∧ (s.disableInterrupts).rtc = s.rtc ∧
    (s.disableInterrupts).rom = s.rom ∧ (s.disableInterrupts).vram = s.vram ∧ (s.disableInterrupts).wram = s.wram ∧
    (s.disableInterrupts).oam = s.oam ∧ (s.disableInterrupts).hram = s.hram ∧ (s.disableInterrupts).cartRam = s.cartRam ∧
    (s.disableInterrupts).io = s.io ∧ (s.disableInterrupts).ioPowerOn = s.ioPowerOn ∧ (s.disableInterrupts).cycles = s.cycles ∧
    (s.disableInterrupts).baseTicks = s.baseTicks ∧ (s.disableInterrupts).draws = s.draws ∧
    (s.disableInterrupts).host = s.host := by
  and_intros <;> rfl

@[simp] theorem addStall_fields (n : BitVec 16) :
    (s.addStall n).model = s.model ∧ (s.addStall n).agbRegs = s.agbRegs ∧ (s.addStall n).bios = s.bios ∧
    (s.addStall n).loaded = s.loaded ∧ (s.addStall n).cpu = { s.cpu with stallCount := s.cpu.stallCount + n } ∧
    (s.addStall n).ie = s.ie ∧ (s.addStall n).irq = s.irq ∧ (s.addStall n).timer = s.timer ∧ (s.addStall n).serial = s.serial ∧
    (s.addStall n).joypad = s.joypad ∧ (s.addStall n).oamDma = s.oamDma ∧ (s.addStall n).hdma = s.hdma ∧
    (s.addStall n).ppu = s.ppu ∧ (s.addStall n).doubleSpeed = s.doubleSpeed ∧ (s.addStall n).speedArmed = s.speedArmed ∧
    (s.addStall n).vbk = s.vbk ∧ (s.addStall n).svbk = s.svbk ∧ (s.addStall n).bootMapped = s.bootMapped ∧
    (s.addStall n).bootDmg = s.bootDmg ∧ (s.addStall n).bootCgb = s.bootCgb ∧ (s.addStall n).bootRom = s.bootRom ∧
    (s.addStall n).cart = s.cart ∧ (s.addStall n).rtc = s.rtc ∧ (s.addStall n).rom = s.rom ∧ (s.addStall n).vram = s.vram ∧
    (s.addStall n).wram = s.wram ∧ (s.addStall n).oam = s.oam ∧ (s.addStall n).hram = s.hram ∧
    (s.addStall n).cartRam = s.cartRam ∧ (s.addStall n).io = s.io ∧ (s.addStall n).ioPowerOn = s.ioPowerOn ∧
    (s.addStall n).cycles = s.cycles ∧ (s.addStall n).baseTicks = s.baseTicks ∧ (s.addStall n).draws = s.draws ∧
    (s.addStall n).host = s.host := by
  and_intros <;> rfl

@[simp] theorem nextDraw_fields :
    (s.nextDraw).model = s.model ∧ (s.nextDraw).agbRegs = s.agbRegs ∧ (s.nextDraw).bios = s.bios ∧
    (s.nextDraw).loaded = s.loaded ∧ (s.nextDraw).cpu = s.cpu ∧ (s.nextDraw).ie = s.ie ∧ (s.nextDraw).irq = s.irq ∧
    (s.nextDraw).timer = s.timer ∧ (s.nextDraw).serial = s.serial ∧ (s.nextDraw).joypad = s.joypad ∧
    (s.nextDraw).oamDma = s.oamDma ∧ (s.nextDraw).hdma = s.hdma ∧ (s.nextDraw).ppu = s.ppu ∧
    (s.nextDraw).doubleSpeed = s.doubleSpeed ∧ (s.nextDraw).speedArmed = s.speedArmed ∧ (s.nextDraw).vbk = s.vbk ∧
    (s.nextDraw).svbk = s.svbk ∧ (s.nextDraw).bootMapped = s.bootMapped ∧ (s.nextDraw).bootDmg = s.bootDmg ∧
    (s.nextDraw).bootCgb = s.bootCgb ∧ (s.nextDraw).bootRom = s.bootRom ∧ (s.nextDraw).cart = s.cart ∧
    (s.nextDraw).rtc = s.rtc ∧ (s.nextDraw).rom = s.rom ∧ (s.nextDraw).vram = s.vram ∧ (s.nextDraw).wram = s.wram ∧
    (s.nextDraw).oam = s.oam ∧ (s.nextDraw).hram = s.hram ∧ (s.nextDraw).cartRam = s.cartRam ∧ (s.nextDraw).io = s.io ∧
    (s.nextDraw).ioPowerOn = s.ioPowerOn ∧ (s.nextDraw).cycles = s.cycles ∧ (s.nextDraw).baseTicks = s.baseTicks ∧
    (s.nextDraw).draws = s.draws + 1 ∧ (s.nextDraw).host = s.host := by
  and_intros <;> rfl

@[simp] theorem noteCart_fields (v : Byte) :
    (s.noteCart v).model = s.model ∧ (s.noteCart v).agbRegs = s.agbRegs ∧ (s.noteCart v).bios = s.bios ∧
    (s.noteCart v).loaded = s.loaded ∧ (s.noteCart v).cpu = s.cpu ∧ (s.noteCart v).ie = s.ie ∧ (s.noteCart v).irq = s.irq ∧
    (s.noteCart v).timer = s.timer ∧ (s.noteCart v).serial = s.serial ∧ (s.noteCart v).joypad = s.joypad ∧
    (s.noteCart v).oamDma = s.oamDma ∧ (s.noteCart v).hdma = s.hdma ∧ (s.noteCart v).ppu = s.ppu ∧
    (s.noteCart v).doubleSpeed = s.doubleSpeed ∧ (s.noteCart v).speedArmed = s.speedArmed ∧ (s.noteCart v).vbk = s.vbk ∧
    (s.noteCart v).svbk = s.svbk ∧ (s.noteCart v).bootMapped = s.bootMapped ∧ (s.noteCart v).bootDmg = s.bootDmg ∧
    (s.noteCart v).bootCgb = s.bootCgb ∧ (s.noteCart v).bootRom = s.bootRom ∧
    (s.noteCart v).cart = { s.cart with lastValue := v, lastTick := s.cycles } ∧ (s.noteCart v).rtc = s.rtc ∧
    (s.noteCart v).rom = s.rom ∧ (s.noteCart v).vram = s.vram ∧ (s.noteCart v).wram = s.wram ∧ (s.noteCart v).oam = s.oam ∧
    (s.noteCart v).hram = s.hram ∧ (s.noteCart v).cartRam = s.cartRam ∧ (s.noteCart v).io = s.io ∧
    (s.noteCart v).ioPowerOn = s.ioPowerOn ∧ (s.noteCart v).cycles = s.cycles ∧ (s.noteCart v).baseTicks = s.baseTicks ∧
    (s.noteCart v).draws = s.draws ∧ (s.noteCart v).host = s.host := by
  and_intros <;> rfl

@[simp] theorem note_fields (e : HostEvent) :
    (s.note e).model = s.model ∧ (s.note e).agbRegs = s.agbRegs ∧ (s.note e).bios = s.bios ∧ (s.note e).loaded = s.loaded ∧
    (s.note e).cpu = s.cpu ∧ (s.note e).ie = s.ie ∧ (s.note e).irq = s.irq ∧ (s.note e).timer = s.timer ∧
    (s.note e).serial = s.serial ∧ (s.note e).joypad = s.joypad ∧ (s.note e).oamDma = s.oamDma ∧ (s.note e).hdma = s.hdma ∧
    (s.note e).ppu = s.ppu ∧ (s.note e).doubleSpeed = s.doubleSpeed ∧ (s.note e).speedArmed = s.speedArmed ∧
    (s.note e).vbk = s.vbk ∧ (s.note e).svbk = s.svbk ∧ (s.note e).bootMapped = s.bootMapped ∧ (s.note e).bootDmg = s.bootDmg ∧
    (s.note e).bootCgb = s.bootCgb ∧ (s.note e).bootRom = s.bootRom ∧ (s.note e).cart = s.cart ∧ (s.note e).rtc = s.rtc ∧
    (s.note e).rom = s.rom ∧ (s.note e).vram = s.vram ∧ (s.note e).wram = s.wram ∧ (s.note e).oam = s.oam ∧
    (s.note e).hram = s.hram ∧ (s.note e).cartRam = s.cartRam ∧ (s.note e).io = s.io ∧ (s.note e).ioPowerOn = s.ioPowerOn ∧
    (s.note e).cycles = s.cycles ∧ (s.note e).baseTicks = s.baseTicks ∧ (s.note e).draws = s.draws ∧
    (s.note e).host = { s.host with events := e :: s.host.events } := by
  and_intros <;> rfl

@[simp] theorem setReplies_fields (rs : List HookReply) :
    (s.setReplies rs).model = s.model ∧ (s.setReplies rs).agbRegs = s.agbRegs ∧ (s.setReplies rs).bios = s.bios ∧
    (s.setReplies rs).loaded = s.loaded ∧ (s.setReplies rs).cpu = s.cpu ∧ (s.setReplies rs).ie = s.ie ∧
    (s.setReplies rs).irq = s.irq ∧ (s.setReplies rs).timer = s.timer ∧ (s.setReplies rs).serial = s.serial ∧
    (s.setReplies rs).joypad = s.joypad ∧ (s.setReplies rs).oamDma = s.oamDma ∧ (s.setReplies rs).hdma = s.hdma ∧
    (s.setReplies rs).ppu = s.ppu ∧ (s.setReplies rs).doubleSpeed = s.doubleSpeed ∧
    (s.setReplies rs).speedArmed = s.speedArmed ∧ (s.setReplies rs).vbk = s.vbk ∧ (s.setReplies rs).svbk = s.svbk ∧
    (s.setReplies rs).bootMapped = s.bootMapped ∧ (s.setReplies rs).bootDmg = s.bootDmg ∧
    (s.setReplies rs).bootCgb = s.bootCgb ∧ (s.setReplies rs).bootRom = s.bootRom ∧ (s.setReplies rs).cart = s.cart ∧
    (s.setReplies rs).rtc = s.rtc ∧ (s.setReplies rs).rom = s.rom ∧ (s.setReplies rs).vram = s.vram ∧
    (s.setReplies rs).wram = s.wram ∧ (s.setReplies rs).oam = s.oam ∧ (s.setReplies rs).hram = s.hram ∧
    (s.setReplies rs).cartRam = s.cartRam ∧ (s.setReplies rs).io = s.io ∧ (s.setReplies rs).ioPowerOn = s.ioPowerOn ∧
    (s.setReplies rs).cycles = s.cycles ∧ (s.setReplies rs).baseTicks = s.baseTicks ∧ (s.setReplies rs).draws = s.draws ∧
    (s.setReplies rs).host = { s.host with replies := rs } := by
  and_intros <;> rfl

@[simp] theorem refuse_fields :
    (s.refuse).model = s.model ∧ (s.refuse).agbRegs = s.agbRegs ∧ (s.refuse).bios = s.bios ∧ (s.refuse).loaded = s.loaded ∧
    (s.refuse).cpu = s.cpu ∧ (s.refuse).ie = s.ie ∧ (s.refuse).irq = s.irq ∧ (s.refuse).timer = s.timer ∧
    (s.refuse).serial = s.serial ∧ (s.refuse).joypad = s.joypad ∧ (s.refuse).oamDma = s.oamDma ∧ (s.refuse).hdma = s.hdma ∧
    (s.refuse).ppu = s.ppu ∧ (s.refuse).doubleSpeed = s.doubleSpeed ∧ (s.refuse).speedArmed = s.speedArmed ∧
    (s.refuse).vbk = s.vbk ∧ (s.refuse).svbk = s.svbk ∧ (s.refuse).bootMapped = s.bootMapped ∧ (s.refuse).bootDmg = s.bootDmg ∧
    (s.refuse).bootCgb = s.bootCgb ∧ (s.refuse).bootRom = s.bootRom ∧ (s.refuse).cart = s.cart ∧ (s.refuse).rtc = s.rtc ∧
    (s.refuse).rom = s.rom ∧ (s.refuse).vram = s.vram ∧ (s.refuse).wram = s.wram ∧ (s.refuse).oam = s.oam ∧
    (s.refuse).hram = s.hram ∧ (s.refuse).cartRam = s.cartRam ∧ (s.refuse).io = s.io ∧ (s.refuse).ioPowerOn = s.ioPowerOn ∧
    (s.refuse).cycles = s.cycles ∧ (s.refuse).baseTicks = s.baseTicks ∧ (s.refuse).draws = s.draws ∧
    (s.refuse).host = { s.host with refusedMark := true } := by
  and_intros <;> rfl

@[simp] theorem setLayers_fields (m : Nat) :
    (s.setLayers m).model = s.model ∧ (s.setLayers m).agbRegs = s.agbRegs ∧ (s.setLayers m).bios = s.bios ∧
    (s.setLayers m).loaded = s.loaded ∧ (s.setLayers m).cpu = s.cpu ∧ (s.setLayers m).ie = s.ie ∧ (s.setLayers m).irq = s.irq ∧
    (s.setLayers m).timer = s.timer ∧ (s.setLayers m).serial = s.serial ∧ (s.setLayers m).joypad = s.joypad ∧
    (s.setLayers m).oamDma = s.oamDma ∧ (s.setLayers m).hdma = s.hdma ∧ (s.setLayers m).ppu = s.ppu ∧
    (s.setLayers m).doubleSpeed = s.doubleSpeed ∧ (s.setLayers m).speedArmed = s.speedArmed ∧ (s.setLayers m).vbk = s.vbk ∧
    (s.setLayers m).svbk = s.svbk ∧ (s.setLayers m).bootMapped = s.bootMapped ∧ (s.setLayers m).bootDmg = s.bootDmg ∧
    (s.setLayers m).bootCgb = s.bootCgb ∧ (s.setLayers m).bootRom = s.bootRom ∧ (s.setLayers m).cart = s.cart ∧
    (s.setLayers m).rtc = s.rtc ∧ (s.setLayers m).rom = s.rom ∧ (s.setLayers m).vram = s.vram ∧ (s.setLayers m).wram = s.wram ∧
    (s.setLayers m).oam = s.oam ∧ (s.setLayers m).hram = s.hram ∧ (s.setLayers m).cartRam = s.cartRam ∧
    (s.setLayers m).io = s.io ∧ (s.setLayers m).ioPowerOn = s.ioPowerOn ∧ (s.setLayers m).cycles = s.cycles ∧
    (s.setLayers m).baseTicks = s.baseTicks ∧ (s.setLayers m).draws = s.draws ∧
    (s.setLayers m).host = { s.host with layerMask := BitVec.ofNat 3 m } := by
  and_intros <;> rfl

@[simp] theorem setPalettes_fields (q : Palettes) :
    (s.setPalettes q).model = s.model ∧ (s.setPalettes q).agbRegs = s.agbRegs ∧ (s.setPalettes q).bios = s.bios ∧
    (s.setPalettes q).loaded = s.loaded ∧ (s.setPalettes q).cpu = s.cpu ∧ (s.setPalettes q).ie = s.ie ∧
    (s.setPalettes q).irq = s.irq ∧ (s.setPalettes q).timer = s.timer ∧ (s.setPalettes q).serial = s.serial ∧
    (s.setPalettes q).joypad = s.joypad ∧ (s.setPalettes q).oamDma = s.oamDma ∧ (s.setPalettes q).hdma = s.hdma ∧
    (s.setPalettes q).ppu = s.ppu ∧ (s.setPalettes q).doubleSpeed = s.doubleSpeed ∧
    (s.setPalettes q).speedArmed = s.speedArmed ∧ (s.setPalettes q).vbk = s.vbk ∧ (s.setPalettes q).svbk = s.svbk ∧
    (s.setPalettes q).bootMapped = s.bootMapped ∧ (s.setPalettes q).bootDmg = s.bootDmg ∧
    (s.setPalettes q).bootCgb = s.bootCgb ∧ (s.setPalettes q).bootRom = s.bootRom ∧ (s.setPalettes q).cart = s.cart ∧
    (s.setPalettes q).rtc = s.rtc ∧ (s.setPalettes q).rom = s.rom ∧ (s.setPalettes q).vram = s.vram ∧
    (s.setPalettes q).wram = s.wram ∧ (s.setPalettes q).oam = s.oam ∧ (s.setPalettes q).hram = s.hram ∧
    (s.setPalettes q).cartRam = s.cartRam ∧ (s.setPalettes q).io = s.io ∧ (s.setPalettes q).ioPowerOn = s.ioPowerOn ∧
    (s.setPalettes q).cycles = s.cycles ∧ (s.setPalettes q).baseTicks = s.baseTicks ∧ (s.setPalettes q).draws = s.draws ∧
    (s.setPalettes q).host = { s.host with palettes := q } := by
  and_intros <;> rfl

@[simp] theorem setDmgColor_fields (p i : Nat) (c : BitVec 32) :
    (s.setDmgColor p i c).model = s.model ∧ (s.setDmgColor p i c).agbRegs = s.agbRegs ∧ (s.setDmgColor p i c).bios = s.bios ∧
    (s.setDmgColor p i c).loaded = s.loaded ∧ (s.setDmgColor p i c).cpu = s.cpu ∧ (s.setDmgColor p i c).ie = s.ie ∧
    (s.setDmgColor p i c).irq = s.irq ∧ (s.setDmgColor p i c).timer = s.timer ∧ (s.setDmgColor p i c).serial = s.serial ∧
    (s.setDmgColor p i c).joypad = s.joypad ∧ (s.setDmgColor p i c).oamDma = s.oamDma ∧ (s.setDmgColor p i c).hdma = s.hdma ∧
    (s.setDmgColor p i c).ppu = s.ppu ∧ (s.setDmgColor p i c).doubleSpeed = s.doubleSpeed ∧
    (s.setDmgColor p i c).speedArmed = s.speedArmed ∧ (s.setDmgColor p i c).vbk = s.vbk ∧ (s.setDmgColor p i c).svbk = s.svbk ∧
    (s.setDmgColor p i c).bootMapped = s.bootMapped ∧ (s.setDmgColor p i c).bootDmg = s.bootDmg ∧
    (s.setDmgColor p i c).bootCgb = s.bootCgb ∧ (s.setDmgColor p i c).bootRom = s.bootRom ∧
    (s.setDmgColor p i c).cart = s.cart ∧ (s.setDmgColor p i c).rtc = s.rtc ∧ (s.setDmgColor p i c).rom = s.rom ∧
    (s.setDmgColor p i c).vram = s.vram ∧ (s.setDmgColor p i c).wram = s.wram ∧ (s.setDmgColor p i c).oam = s.oam ∧
    (s.setDmgColor p i c).hram = s.hram ∧ (s.setDmgColor p i c).cartRam = s.cartRam ∧ (s.setDmgColor p i c).io = s.io ∧
    (s.setDmgColor p i c).ioPowerOn = s.ioPowerOn ∧ (s.setDmgColor p i c).cycles = s.cycles ∧
    (s.setDmgColor p i c).baseTicks = s.baseTicks ∧ (s.setDmgColor p i c).draws = s.draws ∧
    (s.setDmgColor p i c).host = (s.setPalettes { s.host.palettes with dmg := setEntry s.host.palettes.dmg (p * 4 + i) c }).host := by
  and_intros <;> rfl

@[simp] theorem setCgbLut_fields (l : List (BitVec 32)) :
    (s.setCgbLut l).model = s.model ∧ (s.setCgbLut l).agbRegs = s.agbRegs ∧ (s.setCgbLut l).bios = s.bios ∧
    (s.setCgbLut l).loaded = s.loaded ∧ (s.setCgbLut l).cpu = s.cpu ∧ (s.setCgbLut l).ie = s.ie ∧ (s.setCgbLut l).irq = s.irq ∧
    (s.setCgbLut l).timer = s.timer ∧ (s.setCgbLut l).serial = s.serial ∧ (s.setCgbLut l).joypad = s.joypad ∧
    (s.setCgbLut l).oamDma = s.oamDma ∧ (s.setCgbLut l).hdma = s.hdma ∧ (s.setCgbLut l).ppu = s.ppu ∧
    (s.setCgbLut l).doubleSpeed = s.doubleSpeed ∧ (s.setCgbLut l).speedArmed = s.speedArmed ∧ (s.setCgbLut l).vbk = s.vbk ∧
    (s.setCgbLut l).svbk = s.svbk ∧ (s.setCgbLut l).bootMapped = s.bootMapped ∧ (s.setCgbLut l).bootDmg = s.bootDmg ∧
    (s.setCgbLut l).bootCgb = s.bootCgb ∧ (s.setCgbLut l).bootRom = s.bootRom ∧ (s.setCgbLut l).cart = s.cart ∧
    (s.setCgbLut l).rtc = s.rtc ∧ (s.setCgbLut l).rom = s.rom ∧ (s.setCgbLut l).vram = s.vram ∧ (s.setCgbLut l).wram = s.wram ∧
    (s.setCgbLut l).oam = s.oam ∧ (s.setCgbLut l).hram = s.hram ∧ (s.setCgbLut l).cartRam = s.cartRam ∧
    (s.setCgbLut l).io = s.io ∧ (s.setCgbLut l).ioPowerOn = s.ioPowerOn ∧ (s.setCgbLut l).cycles = s.cycles ∧
    (s.setCgbLut l).baseTicks = s.baseTicks ∧ (s.setCgbLut l).draws = s.draws ∧
    (s.setCgbLut l).host = (s.setPalettes { s.host.palettes with cgb := some l }).host := by
  and_intros <;> rfl

@[simp] theorem sampleLines_fields (m : Byte) :
    (s.sampleLines m).model = s.model ∧ (s.sampleLines m).agbRegs = s.agbRegs ∧ (s.sampleLines m).bios = s.bios ∧
    (s.sampleLines m).loaded = s.loaded ∧ (s.sampleLines m).cpu = s.cpu ∧ (s.sampleLines m).ie = s.ie ∧
    (s.sampleLines m).irq = { s.irq with joypad := s.irq.joypad || (s.joypad.lastLines &&& ~~~joypadLines s.joypad.select m) != 0 } ∧
    (s.sampleLines m).timer = s.timer ∧ (s.sampleLines m).serial = s.serial ∧
    (s.sampleLines m).joypad = { s.joypad with lastLines := joypadLines s.joypad.select m } ∧
    (s.sampleLines m).oamDma = s.oamDma ∧ (s.sampleLines m).hdma = s.hdma ∧ (s.sampleLines m).ppu = s.ppu ∧
    (s.sampleLines m).doubleSpeed = s.doubleSpeed ∧ (s.sampleLines m).speedArmed = s.speedArmed ∧
    (s.sampleLines m).vbk = s.vbk ∧ (s.sampleLines m).svbk = s.svbk ∧ (s.sampleLines m).bootMapped = s.bootMapped ∧
    (s.sampleLines m).bootDmg = s.bootDmg ∧ (s.sampleLines m).bootCgb = s.bootCgb ∧ (s.sampleLines m).bootRom = s.bootRom ∧
    (s.sampleLines m).cart = s.cart ∧ (s.sampleLines m).rtc = s.rtc ∧ (s.sampleLines m).rom = s.rom ∧
    (s.sampleLines m).vram = s.vram ∧ (s.sampleLines m).wram = s.wram ∧ (s.sampleLines m).oam = s.oam ∧
    (s.sampleLines m).hram = s.hram ∧ (s.sampleLines m).cartRam = s.cartRam ∧ (s.sampleLines m).io = s.io ∧
    (s.sampleLines m).ioPowerOn = s.ioPowerOn ∧ (s.sampleLines m).cycles = s.cycles ∧
    (s.sampleLines m).baseTicks = s.baseTicks ∧ (s.sampleLines m).draws = s.draws ∧ (s.sampleLines m).host = s.host := by
  and_intros <;> rfl

@[simp] theorem frameEvent_fields (f : Frame) :
    (s.frameEvent f).model = s.model ∧ (s.frameEvent f).agbRegs = s.agbRegs ∧ (s.frameEvent f).bios = s.bios ∧
    (s.frameEvent f).loaded = s.loaded ∧ (s.frameEvent f).cpu = s.cpu ∧ (s.frameEvent f).ie = s.ie ∧
    (s.frameEvent f).irq = s.irq ∧ (s.frameEvent f).timer = s.timer ∧ (s.frameEvent f).serial = s.serial ∧
    (s.frameEvent f).joypad = s.joypad ∧ (s.frameEvent f).oamDma = s.oamDma ∧ (s.frameEvent f).hdma = s.hdma ∧
    (s.frameEvent f).ppu = s.ppu ∧ (s.frameEvent f).doubleSpeed = s.doubleSpeed ∧ (s.frameEvent f).speedArmed = s.speedArmed ∧
    (s.frameEvent f).vbk = s.vbk ∧ (s.frameEvent f).svbk = s.svbk ∧ (s.frameEvent f).bootMapped = s.bootMapped ∧
    (s.frameEvent f).bootDmg = s.bootDmg ∧ (s.frameEvent f).bootCgb = s.bootCgb ∧ (s.frameEvent f).bootRom = s.bootRom ∧
    (s.frameEvent f).cart = s.cart ∧ (s.frameEvent f).rtc = s.rtc ∧ (s.frameEvent f).rom = s.rom ∧
    (s.frameEvent f).vram = s.vram ∧ (s.frameEvent f).wram = s.wram ∧ (s.frameEvent f).oam = s.oam ∧
    (s.frameEvent f).hram = s.hram ∧ (s.frameEvent f).cartRam = s.cartRam ∧ (s.frameEvent f).io = s.io ∧
    (s.frameEvent f).ioPowerOn = s.ioPowerOn ∧ (s.frameEvent f).cycles = s.cycles ∧ (s.frameEvent f).baseTicks = s.baseTicks ∧
    (s.frameEvent f).draws = s.draws ∧
    (s.frameEvent f).host = { s.host with lastFrame := f, frameOffset := if s.host.frameOffset.isNone then some s.host.produced else s.host.frameOffset } := by
  and_intros <;> rfl

@[simp] theorem requestVblank_fields :
    (s.requestVblank).model = s.model ∧ (s.requestVblank).agbRegs = s.agbRegs ∧ (s.requestVblank).bios = s.bios ∧
    (s.requestVblank).loaded = s.loaded ∧ (s.requestVblank).cpu = s.cpu ∧ (s.requestVblank).ie = s.ie ∧
    (s.requestVblank).irq = { s.irq with vblank := true } ∧ (s.requestVblank).timer = s.timer ∧
    (s.requestVblank).serial = s.serial ∧ (s.requestVblank).joypad = s.joypad ∧ (s.requestVblank).oamDma = s.oamDma ∧
    (s.requestVblank).hdma = s.hdma ∧ (s.requestVblank).ppu = s.ppu ∧ (s.requestVblank).doubleSpeed = s.doubleSpeed ∧
    (s.requestVblank).speedArmed = s.speedArmed ∧ (s.requestVblank).vbk = s.vbk ∧ (s.requestVblank).svbk = s.svbk ∧
    (s.requestVblank).bootMapped = s.bootMapped ∧ (s.requestVblank).bootDmg = s.bootDmg ∧
    (s.requestVblank).bootCgb = s.bootCgb ∧ (s.requestVblank).bootRom = s.bootRom ∧ (s.requestVblank).cart = s.cart ∧
    (s.requestVblank).rtc = s.rtc ∧ (s.requestVblank).rom = s.rom ∧ (s.requestVblank).vram = s.vram ∧
    (s.requestVblank).wram = s.wram ∧ (s.requestVblank).oam = s.oam ∧ (s.requestVblank).hram = s.hram ∧
    (s.requestVblank).cartRam = s.cartRam ∧ (s.requestVblank).io = s.io ∧ (s.requestVblank).ioPowerOn = s.ioPowerOn ∧
    (s.requestVblank).cycles = s.cycles ∧ (s.requestVblank).baseTicks = s.baseTicks ∧ (s.requestVblank).draws = s.draws ∧
    (s.requestVblank).host = s.host := by
  and_intros <;> rfl

@[simp] theorem statPhase_fields :
    (s.statPhase).model = s.model ∧ (s.statPhase).agbRegs = s.agbRegs ∧ (s.statPhase).bios = s.bios ∧
    (s.statPhase).loaded = s.loaded ∧ (s.statPhase).cpu = s.cpu ∧ (s.statPhase).ie = s.ie ∧
    (s.statPhase).irq = { s.irq with stat := s.irq.stat || Config.statRequest s.draws } ∧ (s.statPhase).timer = s.timer ∧
    (s.statPhase).serial = s.serial ∧ (s.statPhase).joypad = s.joypad ∧ (s.statPhase).oamDma = s.oamDma ∧
    (s.statPhase).hdma = s.hdma ∧ (s.statPhase).ppu = s.ppu ∧ (s.statPhase).doubleSpeed = s.doubleSpeed ∧
    (s.statPhase).speedArmed = s.speedArmed ∧ (s.statPhase).vbk = s.vbk ∧ (s.statPhase).svbk = s.svbk ∧
    (s.statPhase).bootMapped = s.bootMapped ∧ (s.statPhase).bootDmg = s.bootDmg ∧ (s.statPhase).bootCgb = s.bootCgb ∧
    (s.statPhase).bootRom = s.bootRom ∧ (s.statPhase).cart = s.cart ∧ (s.statPhase).rtc = s.rtc ∧ (s.statPhase).rom = s.rom ∧
    (s.statPhase).vram = s.vram ∧ (s.statPhase).wram = s.wram ∧ (s.statPhase).oam = s.oam ∧ (s.statPhase).hram = s.hram ∧
    (s.statPhase).cartRam = s.cartRam ∧ (s.statPhase).io = s.io ∧ (s.statPhase).ioPowerOn = s.ioPowerOn ∧
    (s.statPhase).cycles = s.cycles ∧ (s.statPhase).baseTicks = s.baseTicks ∧ (s.statPhase).draws = s.draws ∧
    (s.statPhase).host = s.host := by
  and_intros <;> rfl

@[simp] theorem advanceLine_fields :
    (s.advanceLine).model = s.model ∧ (s.advanceLine).agbRegs = s.agbRegs ∧ (s.advanceLine).bios = s.bios ∧
    (s.advanceLine).loaded = s.loaded ∧ (s.advanceLine).cpu = s.cpu ∧ (s.advanceLine).ie = s.ie ∧ (s.advanceLine).irq = s.irq ∧
    (s.advanceLine).timer = s.timer ∧ (s.advanceLine).serial = s.serial ∧ (s.advanceLine).joypad = s.joypad ∧
    (s.advanceLine).oamDma = s.oamDma ∧ (s.advanceLine).hdma = s.hdma ∧
    (s.advanceLine).ppu = { s.ppu with lineTick := (s.ppu.lineTick + 1) % Config.frameTicks } ∧
    (s.advanceLine).doubleSpeed = s.doubleSpeed ∧ (s.advanceLine).speedArmed = s.speedArmed ∧ (s.advanceLine).vbk = s.vbk ∧
    (s.advanceLine).svbk = s.svbk ∧ (s.advanceLine).bootMapped = s.bootMapped ∧ (s.advanceLine).bootDmg = s.bootDmg ∧
    (s.advanceLine).bootCgb = s.bootCgb ∧ (s.advanceLine).bootRom = s.bootRom ∧ (s.advanceLine).cart = s.cart ∧
    (s.advanceLine).rtc = s.rtc ∧ (s.advanceLine).rom = s.rom ∧ (s.advanceLine).vram = s.vram ∧ (s.advanceLine).wram = s.wram ∧
    (s.advanceLine).oam = s.oam ∧ (s.advanceLine).hram = s.hram ∧ (s.advanceLine).cartRam = s.cartRam ∧
    (s.advanceLine).io = s.io ∧ (s.advanceLine).ioPowerOn = s.ioPowerOn ∧ (s.advanceLine).cycles = s.cycles ∧
    (s.advanceLine).baseTicks = s.baseTicks ∧ (s.advanceLine).draws = s.draws ∧
    (s.advanceLine).host = { s.host with picture := s.drawTick } := by
  and_intros <;> rfl

@[simp] theorem countTick_fields :
    (s.countTick).model = s.model ∧ (s.countTick).agbRegs = s.agbRegs ∧ (s.countTick).bios = s.bios ∧
    (s.countTick).loaded = s.loaded ∧ (s.countTick).cpu = s.cpu ∧ (s.countTick).ie = s.ie ∧ (s.countTick).irq = s.irq ∧
    (s.countTick).timer = s.timer ∧ (s.countTick).serial = s.serial ∧ (s.countTick).joypad = s.joypad ∧
    (s.countTick).oamDma = s.oamDma ∧ (s.countTick).hdma = s.hdma ∧ (s.countTick).ppu = s.ppu ∧
    (s.countTick).doubleSpeed = s.doubleSpeed ∧ (s.countTick).speedArmed = s.speedArmed ∧ (s.countTick).vbk = s.vbk ∧
    (s.countTick).svbk = s.svbk ∧ (s.countTick).bootMapped = s.bootMapped ∧ (s.countTick).bootDmg = s.bootDmg ∧
    (s.countTick).bootCgb = s.bootCgb ∧ (s.countTick).bootRom = s.bootRom ∧ (s.countTick).cart = s.cart ∧
    (s.countTick).rtc = s.rtc ∧ (s.countTick).rom = s.rom ∧ (s.countTick).vram = s.vram ∧ (s.countTick).wram = s.wram ∧
    (s.countTick).oam = s.oam ∧ (s.countTick).hram = s.hram ∧ (s.countTick).cartRam = s.cartRam ∧ (s.countTick).io = s.io ∧
    (s.countTick).ioPowerOn = s.ioPowerOn ∧ (s.countTick).cycles = s.cycles ∧ (s.countTick).baseTicks = s.baseTicks + 1 ∧
    (s.countTick).draws = s.draws + 1 ∧ (s.countTick).host = s.host := by
  and_intros <;> rfl

@[simp] theorem countCycle_fields :
    (s.countCycle).model = s.model ∧ (s.countCycle).agbRegs = s.agbRegs ∧ (s.countCycle).bios = s.bios ∧
    (s.countCycle).loaded = s.loaded ∧ (s.countCycle).cpu = s.cpu ∧ (s.countCycle).ie = s.ie ∧ (s.countCycle).irq = s.irq ∧
    (s.countCycle).timer = s.timer ∧ (s.countCycle).serial = s.serial ∧ (s.countCycle).joypad = s.joypad ∧
    (s.countCycle).oamDma = s.oamDma ∧ (s.countCycle).hdma = s.hdma ∧ (s.countCycle).ppu = s.ppu ∧
    (s.countCycle).doubleSpeed = s.doubleSpeed ∧ (s.countCycle).speedArmed = s.speedArmed ∧ (s.countCycle).vbk = s.vbk ∧
    (s.countCycle).svbk = s.svbk ∧ (s.countCycle).bootMapped = s.bootMapped ∧ (s.countCycle).bootDmg = s.bootDmg ∧
    (s.countCycle).bootCgb = s.bootCgb ∧ (s.countCycle).bootRom = s.bootRom ∧ (s.countCycle).cart = s.cart ∧
    (s.countCycle).rtc = s.rtc ∧ (s.countCycle).rom = s.rom ∧ (s.countCycle).vram = s.vram ∧ (s.countCycle).wram = s.wram ∧
    (s.countCycle).oam = s.oam ∧ (s.countCycle).hram = s.hram ∧ (s.countCycle).cartRam = s.cartRam ∧ (s.countCycle).io = s.io ∧
    (s.countCycle).ioPowerOn = s.ioPowerOn ∧ (s.countCycle).cycles = s.cycles + 4 ∧ (s.countCycle).baseTicks = s.baseTicks ∧
    (s.countCycle).draws = s.draws ∧ (s.countCycle).host = s.host := by
  and_intros <;> rfl

@[simp] theorem timerPhase_fields (b : Bool) :
    (s.timerPhase b).model = s.model ∧ (s.timerPhase b).agbRegs = s.agbRegs ∧ (s.timerPhase b).bios = s.bios ∧
    (s.timerPhase b).loaded = s.loaded ∧ (s.timerPhase b).cpu = s.cpu ∧ (s.timerPhase b).ie = s.ie ∧
    (s.timerPhase b).irq = { s.irq with timer := s.irq.timer || s.timer.requests } ∧
    (s.timerPhase b).timer = s.timer.endCycle b ∧ (s.timerPhase b).serial = s.serial ∧ (s.timerPhase b).joypad = s.joypad ∧
    (s.timerPhase b).oamDma = s.oamDma ∧ (s.timerPhase b).hdma = s.hdma ∧ (s.timerPhase b).ppu = s.ppu ∧
    (s.timerPhase b).doubleSpeed = s.doubleSpeed ∧ (s.timerPhase b).speedArmed = s.speedArmed ∧ (s.timerPhase b).vbk = s.vbk ∧
    (s.timerPhase b).svbk = s.svbk ∧ (s.timerPhase b).bootMapped = s.bootMapped ∧ (s.timerPhase b).bootDmg = s.bootDmg ∧
    (s.timerPhase b).bootCgb = s.bootCgb ∧ (s.timerPhase b).bootRom = s.bootRom ∧ (s.timerPhase b).cart = s.cart ∧
    (s.timerPhase b).rtc = s.rtc ∧ (s.timerPhase b).rom = s.rom ∧ (s.timerPhase b).vram = s.vram ∧
    (s.timerPhase b).wram = s.wram ∧ (s.timerPhase b).oam = s.oam ∧ (s.timerPhase b).hram = s.hram ∧
    (s.timerPhase b).cartRam = s.cartRam ∧ (s.timerPhase b).io = s.io ∧ (s.timerPhase b).ioPowerOn = s.ioPowerOn ∧
    (s.timerPhase b).cycles = s.cycles ∧ (s.timerPhase b).baseTicks = s.baseTicks ∧ (s.timerPhase b).draws = s.draws ∧
    (s.timerPhase b).host = s.host := by
  and_intros <;> rfl

@[simp] theorem advanceSerial_fields :
    (s.advanceSerial).model = s.model ∧ (s.advanceSerial).agbRegs = s.agbRegs ∧ (s.advanceSerial).bios = s.bios ∧
    (s.advanceSerial).loaded = s.loaded ∧ (s.advanceSerial).cpu = s.cpu ∧ (s.advanceSerial).ie = s.ie ∧
    (s.advanceSerial).irq = { s.irq with serial := s.irq.serial || s.serial.completes s.host.peer } ∧
    (s.advanceSerial).timer = s.timer ∧ (s.advanceSerial).serial = s.serial.endCycle s.host.peer ∧
    (s.advanceSerial).joypad = s.joypad ∧ (s.advanceSerial).oamDma = s.oamDma ∧ (s.advanceSerial).hdma = s.hdma ∧
    (s.advanceSerial).ppu = s.ppu ∧ (s.advanceSerial).doubleSpeed = s.doubleSpeed ∧
    (s.advanceSerial).speedArmed = s.speedArmed ∧ (s.advanceSerial).vbk = s.vbk ∧ (s.advanceSerial).svbk = s.svbk ∧
    (s.advanceSerial).bootMapped = s.bootMapped ∧ (s.advanceSerial).bootDmg = s.bootDmg ∧
    (s.advanceSerial).bootCgb = s.bootCgb ∧ (s.advanceSerial).bootRom = s.bootRom ∧ (s.advanceSerial).cart = s.cart ∧
    (s.advanceSerial).rtc = s.rtc ∧ (s.advanceSerial).rom = s.rom ∧ (s.advanceSerial).vram = s.vram ∧
    (s.advanceSerial).wram = s.wram ∧ (s.advanceSerial).oam = s.oam ∧ (s.advanceSerial).hram = s.hram ∧
    (s.advanceSerial).cartRam = s.cartRam ∧ (s.advanceSerial).io = s.io ∧ (s.advanceSerial).ioPowerOn = s.ioPowerOn ∧
    (s.advanceSerial).cycles = s.cycles ∧ (s.advanceSerial).baseTicks = s.baseTicks ∧ (s.advanceSerial).draws = s.draws ∧
    (s.advanceSerial).host = { s.host with peer := s.host.peer.endCycle s.serial } := by
  and_intros <;> rfl

@[simp] theorem bankWrite_fields (a : Addr) (v : Byte) :
    (s.bankWrite a v).model = s.model ∧ (s.bankWrite a v).agbRegs = s.agbRegs ∧ (s.bankWrite a v).bios = s.bios ∧
    (s.bankWrite a v).loaded = s.loaded ∧ (s.bankWrite a v).cpu = s.cpu ∧ (s.bankWrite a v).ie = s.ie ∧
    (s.bankWrite a v).irq = s.irq ∧ (s.bankWrite a v).timer = s.timer ∧ (s.bankWrite a v).serial = s.serial ∧
    (s.bankWrite a v).joypad = s.joypad ∧ (s.bankWrite a v).oamDma = s.oamDma ∧ (s.bankWrite a v).hdma = s.hdma ∧
    (s.bankWrite a v).ppu = s.ppu ∧ (s.bankWrite a v).doubleSpeed = s.doubleSpeed ∧
    (s.bankWrite a v).speedArmed = s.speedArmed ∧ (s.bankWrite a v).vbk = s.vbk ∧ (s.bankWrite a v).svbk = s.svbk ∧
    (s.bankWrite a v).bootMapped = s.bootMapped ∧ (s.bankWrite a v).bootDmg = s.bootDmg ∧
    (s.bankWrite a v).bootCgb = s.bootCgb ∧ (s.bankWrite a v).bootRom = s.bootRom ∧
    (s.bankWrite a v).cart = { s.cart.control a v with lastValue := v, lastTick := s.cycles } ∧
    (s.bankWrite a v).rtc = (if s.cart.info.kind == .mbc3 && s.cart.info.hasRtc && decide (0x6000 ≤ a.toNat) then s.rtc.latch v else s.rtc) ∧
    (s.bankWrite a v).rom = s.rom ∧ (s.bankWrite a v).vram = s.vram ∧ (s.bankWrite a v).wram = s.wram ∧
    (s.bankWrite a v).oam = s.oam ∧ (s.bankWrite a v).hram = s.hram ∧ (s.bankWrite a v).cartRam = s.cartRam ∧
    (s.bankWrite a v).io = s.io ∧ (s.bankWrite a v).ioPowerOn = s.ioPowerOn ∧ (s.bankWrite a v).cycles = s.cycles ∧
    (s.bankWrite a v).baseTicks = s.baseTicks ∧ (s.bankWrite a v).draws = s.draws ∧ (s.bankWrite a v).host = s.host := by
  and_intros <;> rfl

@[simp] theorem speedSwitch_fields :
    (s.speedSwitch).model = s.model ∧ (s.speedSwitch).agbRegs = s.agbRegs ∧ (s.speedSwitch).bios = s.bios ∧
    (s.speedSwitch).loaded = s.loaded ∧
    (s.speedSwitch).cpu = { s.cpu with stallCount := BitVec.ofNat 16 Config.speedSwitchMCycles } ∧ (s.speedSwitch).ie = s.ie ∧
    (s.speedSwitch).irq = s.irq ∧ (s.speedSwitch).timer = s.timer.stopReset ∧ (s.speedSwitch).serial = s.serial ∧
    (s.speedSwitch).joypad = s.joypad ∧ (s.speedSwitch).oamDma = s.oamDma ∧ (s.speedSwitch).hdma = s.hdma ∧
    (s.speedSwitch).ppu = s.ppu ∧ (s.speedSwitch).doubleSpeed = !s.doubleSpeed ∧ (s.speedSwitch).speedArmed = false ∧
    (s.speedSwitch).vbk = s.vbk ∧ (s.speedSwitch).svbk = s.svbk ∧ (s.speedSwitch).bootMapped = s.bootMapped ∧
    (s.speedSwitch).bootDmg = s.bootDmg ∧ (s.speedSwitch).bootCgb = s.bootCgb ∧ (s.speedSwitch).bootRom = s.bootRom ∧
    (s.speedSwitch).cart = s.cart ∧ (s.speedSwitch).rtc = s.rtc ∧ (s.speedSwitch).rom = s.rom ∧ (s.speedSwitch).vram = s.vram ∧
    (s.speedSwitch).wram = s.wram ∧ (s.speedSwitch).oam = s.oam ∧ (s.speedSwitch).hram = s.hram ∧
    (s.speedSwitch).cartRam = s.cartRam ∧ (s.speedSwitch).io = s.io ∧ (s.speedSwitch).ioPowerOn = s.ioPowerOn ∧
    (s.speedSwitch).cycles = s.cycles ∧ (s.speedSwitch).baseTicks = s.baseTicks ∧ (s.speedSwitch).draws = s.draws ∧
    (s.speedSwitch).host = s.host := by
  and_intros <;> rfl

@[simp] theorem stopMode_fields :
    (s.stopMode).model = s.model ∧ (s.stopMode).agbRegs = s.agbRegs ∧ (s.stopMode).bios = s.bios ∧
    (s.stopMode).loaded = s.loaded ∧ (s.stopMode).cpu = { s.cpu with stopped := true } ∧ (s.stopMode).ie = s.ie ∧
    (s.stopMode).irq = s.irq ∧ (s.stopMode).timer = s.timer.stopReset ∧ (s.stopMode).serial = s.serial ∧
    (s.stopMode).joypad = s.joypad ∧ (s.stopMode).oamDma = s.oamDma ∧ (s.stopMode).hdma = s.hdma ∧ (s.stopMode).ppu = s.ppu ∧
    (s.stopMode).doubleSpeed = s.doubleSpeed ∧ (s.stopMode).speedArmed = s.speedArmed ∧ (s.stopMode).vbk = s.vbk ∧
    (s.stopMode).svbk = s.svbk ∧ (s.stopMode).bootMapped = s.bootMapped ∧ (s.stopMode).bootDmg = s.bootDmg ∧
    (s.stopMode).bootCgb = s.bootCgb ∧ (s.stopMode).bootRom = s.bootRom ∧ (s.stopMode).cart = s.cart ∧
    (s.stopMode).rtc = s.rtc ∧ (s.stopMode).rom = s.rom ∧ (s.stopMode).vram = s.vram ∧ (s.stopMode).wram = s.wram ∧
    (s.stopMode).oam = s.oam ∧ (s.stopMode).hram = s.hram ∧ (s.stopMode).cartRam = s.cartRam ∧ (s.stopMode).io = s.io ∧
    (s.stopMode).ioPowerOn = s.ioPowerOn ∧ (s.stopMode).cycles = s.cycles ∧ (s.stopMode).baseTicks = s.baseTicks ∧
    (s.stopMode).draws = s.draws ∧ (s.stopMode).host = s.host := by
  and_intros <;> rfl

end Sys2Proof.Machine
end

