-- ==== Sys2Proof/Laws/Cpu.lean ====
section
/-! SUPPORT. What the CPU's registers and latches are after each shared operation: bus accesses and hooks never change them, an M-cycle
changes at most stallCount. -/

namespace Sys2Proof.Machine

/-! Bus accesses. -/

@[simp] theorem openBus_cpu (s : State) (a : Addr) : (s.openBus a).2.cpu = s.cpu := rfl

@[simp] theorem romRead_cpu (s : State) (a : Addr) : (s.romRead a).2.cpu = s.cpu := by
  unfold State.romRead; split <;> simp

@[simp] theorem cartRead_cpu (s : State) (a : Addr) : (s.cartRead a).2.cpu = s.cpu := by
  unfold State.cartRead; split <;> simp

@[simp] theorem setStore_cpu (s : State) (k : Store) (m : Mem) : (s.setStore k m).cpu = s.cpu := by cases k <;> rfl

@[simp] theorem setRamByte_cpu (s : State) (k : Store) (o : Nat) (v : Byte) : (s.setRamByte k o v).cpu = s.cpu := by
  simp [State.setRamByte]

@[simp] theorem cartWrite_cpu (s : State) (a : Addr) (v : Byte) : (s.cartWrite a v).cpu = s.cpu := by
  unfold State.cartWrite; dsimp only; split <;> simp

@[simp] theorem ioWrite_cpu (s : State) (a : Addr) (v : Byte) (r : IoReg) : (s.ioWrite a v r).cpu = s.cpu := by
  cases r <;> rfl

@[simp] theorem bootRead_cpu (s : State) (a : Addr) : (s.bootRead a).2.cpu = s.cpu := by
  unfold State.bootRead; split <;> simp

@[simp] theorem resolveRead_cpu (s : State) (a : Addr) : (s.resolveRead a).2.cpu = s.cpu := by
  unfold State.resolveRead; split <;> try split <;> simp
  all_goals simp

@[simp] theorem resolveWrite_cpu (s : State) (a : Addr) (v : Byte) : (s.resolveWrite a v).cpu = s.cpu := by
  unfold State.resolveWrite; split
  · rfl
  · split <;> simp

/-! Hooks. -/

@[simp] theorem pokeArea_cpu (s : State) (i o : Nat) (v : Byte) : (s.pokeArea i o v).cpu = s.cpu := by
  unfold State.pokeArea; split
  · simp
  · split
    · split <;> simp
    · simp

@[simp] theorem hookAction_cpu (s : State) (x : HookAction) : (s.hookAction x).cpu = s.cpu := by
  cases x <;> simp [State.hookAction] <;> split <;> simp

@[simp] theorem hookActions_cpu (s : State) (xs : List HookAction) : (s.hookActions xs).cpu = s.cpu := by
  induction xs generalizing s with
  | nil => rfl
  | cons x xs ih => simp [State.hookActions, ih]

@[simp] theorem callHook_cpu (s : State) (c : HookCall) : (s.callHook c).2.cpu = s.cpu := by
  unfold State.callHook; split <;> simp

@[simp] theorem fire_cpu (s : State) (b : Bool) (c : HookCall) : (s.fire b c).cpu = s.cpu := by
  unfold State.fire; split <;> simp

@[simp] theorem codeData_cpu (s : State) (a : Addr) (k : CdlFlag) : (s.codeData a k).cpu = s.cpu := by
  simp [State.codeData]

@[simp] theorem checkBreakpoint_cpu (s : State) (a : Addr) : (s.checkBreakpoint a).cpu = s.cpu := by
  unfold State.checkBreakpoint; split <;> rfl

@[simp] theorem pollInput_cpu (s : State) : s.pollInput.cpu = s.cpu := by
  unfold State.pollInput; split <;> simp

@[simp] theorem cpuRead_cpu (s : State) (a : Addr) : (s.cpuRead a).2.cpu = s.cpu := by
  unfold State.cpuRead; split
  · simp
  · split <;> simp

@[simp] theorem cpuWrite_cpu (s : State) (a : Addr) (v : Byte) : (s.cpuWrite a v).cpu = s.cpu := by
  unfold State.cpuWrite; split <;> simp

/-! Devices. -/

@[simp] theorem oamDmaPhase_cpu (s : State) : s.oamDmaPhase.cpu = s.cpu := by
  unfold State.oamDmaPhase State.oamDmaMove; split
  · rfl
  · split <;> simp

@[simp] theorem serialPhase_cpu (s : State) : s.serialPhase.cpu = s.cpu := by simp [State.serialPhase]

@[simp] theorem startLine_cpu (s : State) (l : Nat) : (s.startLine l).cpu = s.cpu := by
  unfold State.startLine; dsimp only; split <;> simp

@[simp] theorem linePhase_cpu (s : State) : s.linePhase.cpu = s.cpu := by
  unfold State.linePhase; split <;> split <;> simp

@[simp] theorem rtcPhase_cpu (s : State) : s.rtcPhase.cpu = s.cpu := by unfold State.rtcPhase; split <;> rfl

@[simp] theorem samplePhase_cpu (s : State) : s.samplePhase.cpu = s.cpu := by unfold State.samplePhase; split <;> rfl

@[simp] theorem hdmaRead_cpu (s : State) (a : Addr) : (s.hdmaRead a).2.cpu = s.cpu := by
  unfold State.hdmaRead; split <;> simp

@[simp] theorem hdmaByte_cpu (s : State) : s.hdmaByte.cpu = s.cpu := hdmaRead_cpu s s.hdma.src

@[simp] theorem hdmaBytes_cpu (s : State) (n : Nat) : (s.hdmaBytes n).cpu = s.cpu := by
  induction n with
  | zero => rfl
  | succ n ih => rw [State.hdmaBytes, hdmaByte_cpu, ih]

/-! The core: what stallCount aside the CPU holds. -/

theorem core_of_cpu {s t : State} (h : t.cpu = s.cpu) : t.core = s.core := by simp [State.core, h]

theorem core_update (s : State) (c : Cpu) : State.core { s with cpu := c } = { c with stallCount := 0 } := rfl

@[simp] theorem addStall_core (s : State) (n : BitVec 16) : (s.addStall n).core = s.core := rfl

@[simp] theorem hdmaBlock_core (s : State) : s.hdmaBlock.core = s.core := by
  rw [State.hdmaBlock, addStall_core, core_of_cpu (hdmaBytes_cpu _ _)]

@[simp] theorem hdmaBlocks_core (s : State) (n : Nat) : (s.hdmaBlocks n).core = s.core := by
  induction n generalizing s with
  | zero => rfl
  | succ n ih => rw [State.hdmaBlocks, hdmaBlock_core, ih]

@[simp] theorem hdmaGeneral_core (s : State) : s.hdmaGeneral.core = s.core :=
  (hdmaBlocks_core _ _).trans (core_of_cpu rfl)

@[simp] theorem hblankPhase_core (s : State) : s.hblankPhase.core = s.core := by
  unfold State.hblankPhase; split
  · exact (hdmaBlock_core _).trans (core_of_cpu rfl)
  · rfl

@[simp] theorem baseTick_core (s : State) : s.baseTick.core = s.core := by
  unfold State.baseTick
  rw [core_of_cpu (countTick_fields _).2.2.2.2.1, core_of_cpu (samplePhase_cpu _), core_of_cpu (rtcPhase_cpu _),
    core_of_cpu (advanceLine_fields _).2.2.2.2.1, hblankPhase_core, core_of_cpu (statPhase_fields _).2.2.2.2.1,
    core_of_cpu (linePhase_cpu _)]

@[simp] theorem basePhase_core (s : State) : s.basePhase.core = s.core := by
  unfold State.basePhase; split <;> simp

@[simp] theorem deviceCycle_core (s : State) (b : Bool) : (s.deviceCycle b).core = s.core := by
  unfold State.deviceCycle
  rw [hdmaGeneral_core, core_of_cpu (countCycle_fields _).2.2.2.2.1, basePhase_core, core_of_cpu (serialPhase_cpu _),
    core_of_cpu (oamDmaPhase_cpu _), core_of_cpu (timerPhase_fields _ _).2.2.2.2.1]

@[simp] theorem internal_core (s : State) : s.internal.core = s.core := by simp [State.internal]

@[simp] theorem memRead_core (s : State) (a : Addr) : (s.memRead a).2.core = s.core := by
  simp only [State.memRead, deviceCycle_core]
  exact core_of_cpu (by simp)

@[simp] theorem memWrite_core (s : State) (a : Addr) (v : Byte) : (s.memWrite a v).core = s.core := by
  simp only [State.memWrite, deviceCycle_core]
  exact core_of_cpu (by simp)

/-! Reading the registers from the core. -/

theorem reg_core (s : State) (r : Reg8) : s.reg r = s.core.reg r := by cases r <;> rfl

theorem pair_core (s : State) (p : Pair) : s.pair p = s.core.pair p := by cases p <;> rfl

theorem stackPair_core (s : State) (q : StackPair) : s.stackPair q = s.core.stackPair q := by cases q <;> rfl

theorem flags_core (s : State) : s.flags = s.core.flags := rfl

theorem flagZ_core (s : State) : s.flagZ = bit s.core.flags 7 := rfl

theorem flagN_core (s : State) : s.flagN = bit s.core.flags 6 := rfl

theorem flagH_core (s : State) : s.flagH = bit s.core.flags 5 := rfl

theorem flagC_core (s : State) : s.flagC = bit s.core.flags 4 := rfl

theorem cond_core {s t : State} (h : t.core = s.core) (cc : Cond) : t.cond cc = s.cond cc := by
  cases cc <;> simp [State.cond, flagZ_core, flagC_core, h]

/-! The core after each register update. -/

@[simp] theorem setReg_core (s : State) (r : Reg8) (v : Byte) : (s.setReg r v).core = s.core.setReg r v := by
  cases r <;> rfl

@[simp] theorem setFlags_core (s : State) (v : Byte) : (s.setFlags v).core = s.core.setFlags v := rfl

@[simp] theorem putFlags_core (s : State) (z n h c : Bool) : (s.putFlags z n h c).core = s.core.setFlags (mkFlags z n h c) := rfl

@[simp] theorem flagsOf_core (s : State) (r : Alu) : (s.flagsOf r).core = s.core.setFlags (mkFlags r.z r.n r.h r.c) := rfl

@[simp] theorem setSp_core (s : State) (v : Addr) : (s.setSp v).core = { s.core with sp := v } := rfl

@[simp] theorem setPc_core (s : State) (v : Addr) : (s.setPc v).core = { s.core with pc := v } := rfl

@[simp] theorem setPair_core (s : State) (p : Pair) (v : Addr) : (s.setPair p v).core = s.core.setPair p v := by
  cases p <;> rfl

@[simp] theorem setHl_core (s : State) (v : Addr) : (s.setHl v).core = s.core.setPair .hl v := rfl

@[simp] theorem setStackPair_core (s : State) (q : StackPair) (v : Addr) :
    (s.setStackPair q v).core = s.core.setStackPair q v := by cases q <;> rfl

/-! Fetches and the stack. -/

@[simp] theorem fetchHooks_cpu (s : State) : s.fetchHooks.cpu = s.cpu := by simp [State.fetchHooks]

@[simp] theorem opcodeHooks_cpu (s : State) : s.opcodeHooks.cpu = s.cpu := by simp [State.opcodeHooks]

/-- The core after `FetchOp()`. -/
@[simp] theorem fetchOp_core (s : State) :
    s.fetchOp.2.core =
      if s.cpu.haltBug then { s.core with haltBug := false } else { s.core with pc := s.cpu.pc + 1 } := by
  simp only [State.fetchOp, deviceCycle_core, State.nextPc]
  have h : (s.opcodeHooks.cpuRead s.cpu.pc).2.cpu = s.cpu := by simp
  rw [h]
  split <;> simp [State.core]

/-- The core after `FetchImm()`. -/
@[simp] theorem fetchImm_core (s : State) : s.fetchImm.2.core = { s.core with pc := s.cpu.pc + 1 } := by
  simp only [State.fetchImm, deviceCycle_core, setPc_core]
  rw [core_of_cpu (s := s) (by simp)]

@[simp] theorem pushByte_core (s : State) (v : Byte) : (s.pushByte v).core = { s.core with sp := s.cpu.sp - 1 } := by
  simp [State.pushByte]

theorem pushByte_sp (s : State) (v : Byte) : (s.pushByte v).cpu.sp = s.cpu.sp - 1 := by
  have h := congrArg Cpu.sp (pushByte_core s v)
  exact h

theorem sp_core (s : State) : s.cpu.sp = s.core.sp := rfl

theorem pc_core (s : State) : s.cpu.pc = s.core.pc := rfl

theorem haltBug_core (s : State) : s.cpu.haltBug = s.core.haltBug := rfl

@[simp] theorem pushWord_core (s : State) (v : Addr) : (s.pushWord v).core = { s.core with sp := s.cpu.sp - 2 } := by
  simp only [State.pushWord, pushByte_core, sp_core (s.pushByte _)]
  congr 1
  show s.cpu.sp - 1 - 1 = s.cpu.sp - 2
  bv_omega

@[simp] theorem popByte_core (s : State) : s.popByte.2.core = { s.core with sp := s.cpu.sp + 1 } := by
  simp [State.popByte]

@[simp] theorem popWord_core (s : State) : s.popWord.2.core = { s.core with sp := s.cpu.sp + 2 } := by
  simp only [State.popWord, popByte_core, sp_core s.popByte.2]
  congr 1
  show s.cpu.sp + 1 + 1 = s.cpu.sp + 2
  bv_omega

@[simp] theorem jump_core (s : State) (a : Addr) : (s.jump a).core = { s.core with pc := a } := by simp [State.jump]

@[simp] theorem call_core (s : State) (a : Addr) : (s.call a).core = { s.core with sp := s.cpu.sp - 2, pc := a } := by
  simp only [State.call, setPc_core, pushWord_core, internal_core, sp_core s.internal]
  rfl

@[simp] theorem ret_core (s : State) : s.ret.core = { s.core with sp := s.cpu.sp + 2, pc := s.popWord.1 } := by
  simp [State.ret]

/-- The core after an interrupt dispatch (60_exceptions.md R213). -/
theorem dispatch_core (s : State) :
    s.dispatch.core =
      { s.core with
        ime := false
        imePending := false
        haltBug := false
        sp := s.cpu.sp - 2
        pc := dispatchTarget (lowestSet (s.dispatchEntry.pushByte (hiByte s.dispatchReturn)).pendingBits) } := by
  have entry : s.dispatchEntry.core = { s.core with ime := false, imePending := false, haltBug := false } := by
    simp [State.dispatchEntry]; rfl
  have ack : ∀ (t : State) (w : Option Nat), (t.acknowledge w).core = t.core := by
    intro t w; cases w <;> rfl
  simp only [State.dispatch, jump_core, ack, pushByte_core, entry, sp_core (State.pushByte _ _), sp_core s.dispatchEntry]
  show Cpu.mk _ _ _ _ _ _ _ _ _ _ _ _ _ _ _ _ _ _ = Cpu.mk _ _ _ _ _ _ _ _ _ _ _ _ _ _ _ _ _ _
  congr 1
  show s.cpu.sp - 1 - 1 = s.cpu.sp - 2
  bv_omega

/-- The core after RETI (45_control.md R195). -/
@[simp] theorem interruptReturn_core (s : State) :
    s.interruptReturn.core =
      { s.core with sp := s.cpu.sp + 2, pc := s.popWord.1, ime := true, imePending := false } := by
  have h := ret_core s
  simp only [State.core, State.interruptReturn] at h ⊢
  have hs : ∀ c d : Cpu, { c with stallCount := 0 } = d →
      { { c with ime := true, imePending := false } with stallCount := 0 } = { d with ime := true, imePending := false } := by
    intro c d h; subst h; rfl
  exact hs _ _ h

@[simp] theorem internals_core (s : State) (n : Nat) : (s.internals n).core = s.core := by
  induction n generalizing s with
  | zero => rfl
  | succ n ih => simp [State.internals, ih]

/-- Waking from HALT (46_system.md R203). -/
@[simp] theorem haltWake_core (s : State) : s.haltWake.core = { s.core with halted := false } :=
  (internals_core _ _).trans rfl

@[simp] theorem stallCycle_core (s : State) : s.stallCycle.core = s.core := by
  have h := deviceCycle_core s (!s.cpu.stopped)
  exact h

/-- The core after the latches and the trace hook of an instruction step (30_encoding.md R119). -/
@[simp] theorem startInstr_core (s : State) :
    s.startInstr.core =
      { s.core with imeBefore := s.cpu.ime, ime := s.cpu.ime || s.cpu.imePending, imePending := false } :=
  (core_of_cpu (by simp [State.startInstr])).trans (rfl : State.core { s with cpu := { s.cpu with
    imeBefore := s.cpu.ime, ime := s.cpu.ime || s.cpu.imePending, imePending := false } } = _)

end Sys2Proof.Machine
end

