-- ==== Sys2Proof/Laws/Time.lean ====
section
/-! SUPPORT. Time: how many M-cycles each shared operation takes, what samples they produce and where a frame event falls
(70_reset_and_hazards.md R257 to R263). -/

namespace Sys2Proof.Machine

/-- An operation that takes no time; it may only restart the frame position, by a write to LCDC. -/
structure NoTime (s t : State) : Prop where
  cycles : t.cycles = s.cycles
  baseTicks : t.baseTicks = s.baseTicks
  produced : t.host.produced = s.host.produced
  frameOffset : t.host.frameOffset = s.host.frameOffset
  lineTick : t.ppu.lineTick = s.ppu.lineTick ∨ t.ppu.lineTick = 0

theorem NoTime.refl (s : State) : NoTime s s := ⟨rfl, rfl, rfl, rfl, .inl rfl⟩

theorem NoTime.trans {s t u : State} (h : NoTime s t) (k : NoTime t u) : NoTime s u := by
  refine ⟨k.cycles.trans h.cycles, k.baseTicks.trans h.baseTicks, k.produced.trans h.produced,
    k.frameOffset.trans h.frameOffset, ?_⟩
  rcases k.lineTick with h1 | h1
  · rw [h1]; exact h.lineTick
  · exact .inr h1

theorem noTime_setRamByte (s : State) (k : Store) (o : Nat) (v : Byte) : NoTime s (s.setRamByte k o v) := by
  cases k <;> exact ⟨rfl, rfl, rfl, rfl, .inl rfl⟩

theorem noTime_resolveRead (s : State) (a : Addr) : NoTime s (s.resolveRead a).2 := by
  have note : ∀ v, NoTime s (s.noteCart v) := fun _ => ⟨rfl, rfl, rfl, rfl, .inl rfl⟩
  have draw : NoTime s s.nextDraw := ⟨rfl, rfl, rfl, rfl, .inl rfl⟩
  unfold State.resolveRead; split
  · split
    · unfold State.bootRead; split
      · exact .refl s
      · exact draw
    · unfold State.romRead; split
      · exact note _
      · exact draw
  · exact draw
  · unfold State.cartRead; split
    · exact note _
    · exact note _
    · exact note _
    · exact draw
  all_goals first | exact .refl s | exact draw

theorem noTime_ioWrite (s : State) (a : Addr) (v : Byte) (r : IoReg) : NoTime s (s.ioWrite a v r) := by
  cases r <;> try exact ⟨rfl, rfl, rfl, rfl, .inl rfl⟩
  refine ⟨rfl, rfl, rfl, rfl, ?_⟩
  show (s.ppu.writeLcdc v).lineTick = _ ∨ (s.ppu.writeLcdc v).lineTick = 0
  unfold Ppu.writeLcdc; dsimp only; split
  · exact .inr rfl
  · exact .inl rfl

theorem noTime_resolveWrite (s : State) (a : Addr) (v : Byte) : NoTime s (s.resolveWrite a v) := by
  unfold State.resolveWrite; split
  · exact .refl s
  · split
    · exact ⟨rfl, rfl, rfl, rfl, .inl rfl⟩
    · exact ⟨rfl, rfl, rfl, rfl, .inl rfl⟩
    · unfold State.cartWrite; dsimp only; split
      · exact NoTime.trans (t := s.noteCart v) ⟨rfl, rfl, rfl, rfl, .inl rfl⟩ (noTime_setRamByte _ _ _ _)
      · exact NoTime.trans (t := s.noteCart v) ⟨rfl, rfl, rfl, rfl, .inl rfl⟩ (noTime_setRamByte _ _ _ _)
      · exact ⟨rfl, rfl, rfl, rfl, .inl rfl⟩
      · exact ⟨rfl, rfl, rfl, rfl, .inl rfl⟩
    · exact noTime_setRamByte _ _ _ _
    · exact ⟨rfl, rfl, rfl, rfl, .inl rfl⟩
    · exact .refl s
    · exact noTime_ioWrite _ _ _ _
    · exact noTime_setRamByte _ _ _ _
    · exact ⟨rfl, rfl, rfl, rfl, .inl rfl⟩

theorem noTime_pokeArea (s : State) (i o : Nat) (v : Byte) : NoTime s (s.pokeArea i o v) := by
  unfold State.pokeArea; split
  · exact ⟨rfl, rfl, rfl, rfl, .inl rfl⟩
  · split
    · split
      all_goals first | exact noTime_setRamByte _ _ _ _ | exact ⟨rfl, rfl, rfl, rfl, .inl rfl⟩
    · exact ⟨rfl, rfl, rfl, rfl, .inl rfl⟩

theorem noTime_hookAction (s : State) (x : HookAction) : NoTime s (s.hookAction x) := by
  cases x <;> simp only [State.hookAction]
  · exact (noTime_resolveRead s _).trans ⟨rfl, rfl, rfl, rfl, .inl rfl⟩
  · exact noTime_resolveWrite s _ _
  · exact ⟨rfl, rfl, rfl, rfl, .inl rfl⟩
  · exact ⟨rfl, rfl, rfl, rfl, .inl rfl⟩
  · exact noTime_pokeArea s _ _ _
  · exact ⟨rfl, rfl, rfl, rfl, .inl rfl⟩
  · split <;> exact ⟨rfl, rfl, rfl, rfl, .inl rfl⟩
  · split <;> exact ⟨rfl, rfl, rfl, rfl, .inl rfl⟩
  · exact ⟨rfl, rfl, rfl, rfl, .inl rfl⟩
  · exact ⟨rfl, rfl, rfl, rfl, .inl rfl⟩

theorem noTime_hookActions (s : State) (xs : List HookAction) : NoTime s (s.hookActions xs) := by
  induction xs generalizing s with
  | nil => exact .refl s
  | cons x xs ih => exact (noTime_hookAction s x).trans (ih _)

theorem noTime_callHook (s : State) (c : HookCall) : NoTime s (s.callHook c).2 := by
  unfold State.callHook; split
  · exact ⟨rfl, rfl, rfl, rfl, .inl rfl⟩
  · rename_i r rs _
    exact (NoTime.trans (t := (s.note (.call c)).setReplies rs) ⟨rfl, rfl, rfl, rfl, .inl rfl⟩ (noTime_hookActions _ _))

theorem noTime_fire (s : State) (b : Bool) (c : HookCall) : NoTime s (s.fire b c) := by
  unfold State.fire; split
  · exact noTime_callHook s c
  · exact .refl s

theorem noTime_codeData (s : State) (a : Addr) (k : CdlFlag) : NoTime s (s.codeData a k) := noTime_fire _ _ _

theorem noTime_checkBreakpoint (s : State) (a : Addr) : NoTime s (s.checkBreakpoint a) := by
  unfold State.checkBreakpoint; split
  · exact ⟨rfl, rfl, rfl, rfl, .inl rfl⟩
  · exact .refl s

theorem noTime_pollInput (s : State) : NoTime s s.pollInput := by
  unfold State.pollInput; split
  · exact (noTime_callHook s _).trans ⟨rfl, rfl, rfl, rfl, .inl rfl⟩
  · exact ⟨rfl, rfl, rfl, rfl, .inl rfl⟩

theorem noTime_cpuRead (s : State) (a : Addr) : NoTime s (s.cpuRead a).2 := by
  unfold State.cpuRead; split
  · exact ⟨rfl, rfl, rfl, rfl, .inl rfl⟩
  · split
    · exact (noTime_pollInput s).trans (noTime_resolveRead _ _)
    · exact noTime_resolveRead s a

theorem noTime_cpuWrite (s : State) (a : Addr) (v : Byte) : NoTime s (s.cpuWrite a v) := by
  unfold State.cpuWrite; split
  · exact (noTime_resolveWrite s a v).trans (noTime_pollInput _)
  · exact noTime_resolveWrite s a v

theorem noTime_oamDmaPhase (s : State) : NoTime s s.oamDmaPhase := by
  unfold State.oamDmaPhase; split
  · exact ⟨rfl, rfl, rfl, rfl, .inl rfl⟩
  · split
    · exact (noTime_resolveRead s _).trans ⟨rfl, rfl, rfl, rfl, .inl rfl⟩
    · exact .refl s

theorem noTime_serialPhase (s : State) : NoTime s s.serialPhase :=
  NoTime.trans (t := s.advanceSerial) ⟨rfl, rfl, rfl, rfl, .inl rfl⟩ (noTime_fire _ _ _)

theorem noTime_hdmaRead (s : State) (a : Addr) : NoTime s (s.hdmaRead a).2 := by
  unfold State.hdmaRead; split
  · exact .refl s
  · exact noTime_resolveRead s a

theorem noTime_hdmaByte (s : State) : NoTime s s.hdmaByte :=
  (noTime_hdmaRead s s.hdma.src).trans ⟨rfl, rfl, rfl, rfl, .inl rfl⟩

theorem noTime_hdmaBytes (s : State) (n : Nat) : NoTime s (s.hdmaBytes n) := by
  induction n with
  | zero => exact .refl s
  | succ n ih => rw [State.hdmaBytes]; exact ih.trans (noTime_hdmaByte _)

theorem noTime_addStall (s : State) (n : BitVec 16) : NoTime s (s.addStall n) := ⟨rfl, rfl, rfl, rfl, .inl rfl⟩

theorem noTime_hdmaBlock (s : State) : NoTime s s.hdmaBlock := by
  rw [State.hdmaBlock]
  exact (noTime_hdmaBytes s 16).trans (noTime_addStall _ _)

theorem noTime_hdmaBlocks (s : State) (n : Nat) : NoTime s (s.hdmaBlocks n) := by
  induction n generalizing s with
  | zero => exact .refl s
  | succ n ih => rw [State.hdmaBlocks]; exact (ih s).trans (noTime_hdmaBlock _)

theorem noTime_hdmaGeneral (s : State) : NoTime s s.hdmaGeneral :=
  NoTime.trans (t := { s with hdma := { s.hdma with pending := 0 } }) ⟨rfl, rfl, rfl, rfl, .inl rfl⟩ (noTime_hdmaBlocks _ _)

theorem noTime_hblankPhase (s : State) : NoTime s s.hblankPhase := by
  unfold State.hblankPhase; split
  · exact NoTime.trans
      (t := { s with hdma := { s.hdma with active := decide (1 < s.hdma.blocks), blocks := s.hdma.blocks - 1 } })
      ⟨rfl, rfl, rfl, rfl, .inl rfl⟩ (noTime_hdmaBlock _)
  · exact .refl s

/-! Reads, and so VRAM DMA, never touch the frame position. -/

theorem resolveRead_ppu (s : State) (a : Addr) : (s.resolveRead a).2.ppu = s.ppu := by
  unfold State.resolveRead; split
  · split
    · unfold State.bootRead; split <;> rfl
    · unfold State.romRead; split <;> rfl
  · rfl
  · unfold State.cartRead; split <;> rfl
  all_goals rfl

theorem hdmaByte_ppu (s : State) : s.hdmaByte.ppu = s.ppu := by
  show (s.hdmaRead s.hdma.src).2.ppu = _
  unfold State.hdmaRead; split
  · rfl
  · exact resolveRead_ppu s _

theorem hdmaBytes_ppu (s : State) (n : Nat) : (s.hdmaBytes n).ppu = s.ppu := by
  induction n with
  | zero => rfl
  | succ n ih => rw [State.hdmaBytes, hdmaByte_ppu, ih]

theorem hblankPhase_ppu (s : State) : s.hblankPhase.ppu = s.ppu := by
  unfold State.hblankPhase; split
  · rw [State.hdmaHBlank, State.hdmaBlock, (addStall_fields _ _).2.2.2.2.2.2.2.2.2.2.2.2.1, hdmaBytes_ppu]
  · rfl

/-! Base ticks. -/

theorem NoTime.even {s t : State} (h : NoTime s t) (e : s.EvenClock) : t.EvenClock := by
  obtain ⟨e1, e2, e3⟩ := e
  refine ⟨by rw [h.baseTicks]; exact e1, ?_⟩
  rcases h.lineTick with h1 | h1 <;> rw [h1]
  · exact ⟨e2, e3⟩
  · exact ⟨rfl, by decide⟩

/-- What the line phase does to the clock: a frame event records the samples produced so far, at the frame position 65,664. -/
structure LineClock (s t : State) : Prop where
  cycles : t.cycles = s.cycles
  baseTicks : t.baseTicks = s.baseTicks
  produced : t.host.produced = s.host.produced
  lineTick : t.ppu.lineTick = s.ppu.lineTick ∨ (t.ppu.lineTick = 0 ∧ s.ppu.lineTick % 456 = 0)
  frameOffset : t.host.frameOffset = s.host.frameOffset ∨
    (s.ppu.lineTick = Config.vblankTick ∧ s.host.frameOffset = none ∧ t.host.frameOffset = some s.host.produced)

theorem lineClock_frameEvent {s t : State} (h : NoTime s t) (hl : s.ppu.lineTick = Config.vblankTick) (f : Frame) :
    LineClock s (t.frameEvent f) := by
  refine ⟨h.cycles, h.baseTicks, h.produced, ?_, ?_⟩
  · rcases h.lineTick with h1 | h1
    · exact .inl h1
    · exact .inr ⟨h1, by rw [hl]; rfl⟩
  · have e : (t.frameEvent f).host.frameOffset =
        if s.host.frameOffset.isNone then some s.host.produced else s.host.frameOffset := by
      rw [← h.frameOffset, ← h.produced]; rfl
    rw [e]
    cases s.host.frameOffset with
    | none => exact .inr ⟨hl, rfl, rfl⟩
    | some f => exact .inl rfl

theorem lineClock_linePhase (s : State) : LineClock s s.linePhase := by
  have refl : LineClock s s := ⟨rfl, rfl, rfl, .inl rfl, .inl rfl⟩
  unfold State.linePhase; split
  · split
    · rename_i hl
      have hl : s.ppu.lineTick % 456 = 0 := hl
      have h := noTime_fire s (s.host.hooks.scanline == some (s.ppu.lineTick / Config.lineTicks)) .scanline
      unfold State.startLine; dsimp only; split
      · rename_i h144
        have h144 : s.ppu.lineTick / 456 = 144 := h144
        exact lineClock_frameEvent (h.trans (u := State.requestVblank _) ⟨rfl, rfl, rfl, rfl, .inl rfl⟩)
          (show s.ppu.lineTick = 65664 by omega) _
      · refine ⟨h.cycles, h.baseTicks, h.produced, ?_, .inl h.frameOffset⟩
        rcases h.lineTick with h1 | h1
        · exact .inl h1
        · exact .inr ⟨h1, hl⟩
    · exact refl
  · split
    · rename_i hl
      exact lineClock_frameEvent (.refl s) hl _
    · exact refl

/-- One base tick (R231, R258, R259). -/
structure TickClock (s t : State) : Prop where
  cycles : t.cycles = s.cycles
  baseTicks : t.baseTicks = s.baseTicks + 1
  produced : t.host.produced = s.host.produced + s.baseTicks % 2
  lineTick : s.ppu.lineTick < Config.frameTicks → s.ppu.lineTick % 2 = s.baseTicks % 2 →
    t.ppu.lineTick < Config.frameTicks ∧ t.ppu.lineTick % 2 = t.baseTicks % 2
  frameOffset : t.host.frameOffset = s.host.frameOffset ∨
    (s.ppu.lineTick = Config.vblankTick ∧ s.host.frameOffset = none ∧ t.host.frameOffset = some s.host.produced)

theorem rtcPhase_fields (s : State) :
    s.rtcPhase.cycles = s.cycles ∧ s.rtcPhase.baseTicks = s.baseTicks ∧ s.rtcPhase.host = s.host ∧ s.rtcPhase.ppu = s.ppu := by
  unfold State.rtcPhase; split <;> exact ⟨rfl, rfl, rfl, rfl⟩

theorem samplePhase_fields (s : State) :
    s.samplePhase.cycles = s.cycles ∧ s.samplePhase.baseTicks = s.baseTicks ∧ s.samplePhase.ppu = s.ppu ∧
    s.samplePhase.host.produced = s.host.produced + s.baseTicks % 2 ∧ s.samplePhase.host.frameOffset = s.host.frameOffset := by
  unfold State.samplePhase; split
  · rename_i h; exact ⟨rfl, rfl, rfl, by rw [h], rfl⟩
  · rename_i h; exact ⟨rfl, rfl, rfl, by omega, rfl⟩

theorem tickClock_baseTick (s : State) : TickClock s s.baseTick := by
  have a := lineClock_linePhase s
  have b := NoTime.trans (t := s.linePhase.statPhase) (s := s.linePhase) ⟨rfl, rfl, rfl, rfl, .inl rfl⟩ (noTime_hblankPhase _)
  have hr := rtcPhase_fields s.linePhase.statPhase.hblankPhase.advanceLine
  have hs := samplePhase_fields s.linePhase.statPhase.hblankPhase.advanceLine.rtcPhase
  have hp : s.baseTick.host = s.linePhase.statPhase.hblankPhase.advanceLine.rtcPhase.samplePhase.host := rfl
  have ht : s.baseTick.baseTicks = s.linePhase.statPhase.hblankPhase.advanceLine.rtcPhase.samplePhase.baseTicks + 1 := rfl
  have hl : s.baseTick.ppu = s.linePhase.statPhase.hblankPhase.advanceLine.rtcPhase.samplePhase.ppu := rfl
  have hc : s.baseTick.cycles = s.linePhase.statPhase.hblankPhase.advanceLine.rtcPhase.samplePhase.cycles := rfl
  have e1 : s.baseTick.baseTicks = s.baseTicks + 1 := by
    rw [ht, hs.2.1, hr.2.1]; exact congrArg (· + 1) (b.baseTicks.trans a.baseTicks)
  refine ⟨?_, e1, ?_, ?_, ?_⟩
  · rw [hc, hs.1, hr.1]; exact b.cycles.trans a.cycles
  · rw [hp, hs.2.2.2.1, hr.2.1, hr.2.2.1]
    show s.linePhase.statPhase.hblankPhase.host.produced + s.linePhase.statPhase.hblankPhase.baseTicks % 2 = _
    rw [b.baseTicks, a.baseTicks, b.produced, a.produced]
  · intro h1 h2
    rw [e1, hl, hs.2.2.1, hr.2.2.2]
    show (s.linePhase.statPhase.hblankPhase.ppu.lineTick + 1) % 70224 < 70224 ∧
      (s.linePhase.statPhase.hblankPhase.ppu.lineTick + 1) % 70224 % 2 = _
    have h1 : s.ppu.lineTick < 70224 := h1
    have h3 : s.linePhase.statPhase.hblankPhase.ppu.lineTick = s.linePhase.ppu.lineTick := by rw [hblankPhase_ppu]; rfl
    rw [h3]
    rcases a.lineTick with h4 | ⟨h4, h5⟩ <;> rw [h4]
    · omega
    · omega
  · rw [hp, hs.2.2.2.2, hr.2.2.1]
    show s.linePhase.statPhase.hblankPhase.host.frameOffset = _ ∨ _ ∧ _ ∧ s.linePhase.statPhase.hblankPhase.host.frameOffset = _
    rw [b.frameOffset]
    exact a.frameOffset

/-! M-cycles. -/

/-- `t` is `s` after `n` M-cycles: 4 CPU ticks each, one or two samples each, and from an even clock an even clock, any new frame event
within the samples produced. -/
structure Ticks (n : Nat) (s t : State) : Prop where
  cycles : t.cycles = s.cycles + 4 * n
  least : s.host.produced + n ≤ t.host.produced
  most : t.host.produced ≤ s.host.produced + 2 * n
  clock : s.EvenClock → t.EvenClock ∧ (t.host.frameOffset = s.host.frameOffset ∨
    (s.host.frameOffset = none ∧ ∃ f, t.host.frameOffset = some f ∧ s.host.produced ≤ f ∧ f < t.host.produced))

theorem NoTime.ticks {s t : State} (h : NoTime s t) : Ticks 0 s t :=
  ⟨h.cycles, Nat.le_of_eq h.produced.symm, Nat.le_of_eq h.produced, fun e => ⟨h.even e, .inl h.frameOffset⟩⟩

theorem Ticks.refl (s : State) : Ticks 0 s s := (NoTime.refl s).ticks

theorem Ticks.trans {m n : Nat} {s t u : State} (h : Ticks m s t) (k : Ticks n t u) : Ticks (m + n) s u := by
  refine ⟨by rw [k.cycles, h.cycles]; omega, by have := h.least; have := k.least; omega,
    by have := h.most; have := k.most; omega, fun e => ?_⟩
  obtain ⟨e1, o1⟩ := h.clock e
  obtain ⟨e2, o2⟩ := k.clock e1
  refine ⟨e2, ?_⟩
  have hl := h.least
  have kl := k.least
  rcases o2 with o2 | ⟨o2, f, o3, o4, o5⟩
  · rw [o2]
    rcases o1 with o1 | ⟨o1, f, o3, o4, o5⟩
    · exact .inl o1
    · exact .inr ⟨o1, f, o3, o4, by omega⟩
  · rcases o1 with o1 | ⟨o1, g, o6, -, -⟩
    · exact .inr ⟨o1.symm.trans o2, f, o3, by omega, o5⟩
    · rw [o6] at o2; contradiction

/-- A time-free operation before or after M-cycles. -/
theorem Ticks.after {n : Nat} {s t u : State} (h : Ticks n s t) (k : NoTime t u) : Ticks n s u := h.trans k.ticks

theorem NoTime.before {n : Nat} {s t u : State} (h : NoTime s t) (k : Ticks n t u) : Ticks n s u := by
  simpa using h.ticks.trans k

/-- An update of the CPU takes no time. -/
theorem noTime_cpu (s : State) (c : Cpu) : NoTime s { s with cpu := c } := ⟨rfl, rfl, rfl, rfl, .inl rfl⟩

/-- Two base ticks from an even clock: one sample, a frame event only in the first of them. -/
theorem two_ticks (s : State) :
    s.baseTick.baseTick.cycles = s.cycles ∧
    s.baseTick.baseTick.host.produced = s.host.produced + 1 ∧
    (s.EvenClock → s.baseTick.baseTick.EvenClock ∧ (s.baseTick.baseTick.host.frameOffset = s.host.frameOffset ∨
      (s.host.frameOffset = none ∧ s.baseTick.baseTick.host.frameOffset = some s.host.produced))) := by
  have a := tickClock_baseTick s
  have b := tickClock_baseTick s.baseTick
  refine ⟨b.cycles.trans a.cycles, ?_, fun ⟨e1, e2, e3⟩ => ?_⟩
  · rw [b.produced, a.produced, a.baseTicks]; omega
  · obtain ⟨a1, a2⟩ := a.lineTick e3 (by omega)
    obtain ⟨b1, b2⟩ := b.lineTick a1 a2
    have a3 := a.baseTicks
    have b3 := b.baseTicks
    refine ⟨⟨by omega, by omega, b1⟩, ?_⟩
    rcases b.frameOffset with o2 | ⟨o2, -, -⟩
    · rw [o2]
      rcases a.frameOffset with o1 | ⟨-, o1, o3⟩
      · exact .inl o1
      · exact .inr ⟨o1, o3⟩
    · rw [show Config.vblankTick = 65664 from rfl] at o2; omega

/-- The samples of an M-cycle: 2, or 1 in double speed (R258). -/
theorem basePhase_clock (s : State) :
    s.basePhase.cycles = s.cycles ∧
    s.basePhase.host.produced = s.host.produced + (if s.doubleSpeed then 1 else 2) ∧
    (s.EvenClock → s.basePhase.EvenClock ∧ (s.basePhase.host.frameOffset = s.host.frameOffset ∨
      (s.host.frameOffset = none ∧ ∃ f, s.basePhase.host.frameOffset = some f ∧ s.host.produced ≤ f ∧
        f < s.basePhase.host.produced))) := by
  have a := two_ticks s
  have b := two_ticks s.baseTick.baseTick
  unfold State.basePhase; split
  · refine ⟨a.1, a.2.1, fun e => ⟨(a.2.2 e).1, ?_⟩⟩
    rcases (a.2.2 e).2 with o | ⟨o, o'⟩
    · exact .inl o
    · exact .inr ⟨o, _, o', Nat.le_refl _, by rw [a.2.1]; omega⟩
  · refine ⟨b.1.trans a.1, by rw [b.2.1, a.2.1], fun e => ?_⟩
    obtain ⟨e1, o1⟩ := a.2.2 e
    obtain ⟨e2, o2⟩ := b.2.2 e1
    refine ⟨e2, ?_⟩
    have := a.2.1
    have := b.2.1
    rcases o2 with o2 | ⟨o2, o3⟩
    · rw [o2]
      rcases o1 with o1 | ⟨o1, o3⟩
      · exact .inl o1
      · exact .inr ⟨o1, _, o3, Nat.le_refl _, by omega⟩
    · rcases o1 with o1 | ⟨o1, o4⟩
      · exact .inr ⟨o1.symm.trans o2, _, o3, by omega, by omega⟩
      · rw [o4] at o2; contradiction

theorem ticks_basePhase (s : State) : Ticks 1 s s.basePhase.countCycle := by
  have y := basePhase_clock s
  refine ⟨?_, ?_, ?_, y.2.2⟩
  · show s.basePhase.cycles + 4 = _
    rw [y.1]
  · show _ ≤ s.basePhase.host.produced
    rw [y.2.1]; split <;> omega
  · show s.basePhase.host.produced ≤ _
    rw [y.2.1]; split <;> omega

theorem noTime_timerPhase (s : State) (b : Bool) : NoTime s (s.timerPhase b) := ⟨rfl, rfl, rfl, rfl, .inl rfl⟩

/-- The device phase is one M-cycle. -/
theorem ticks_deviceCycle (s : State) (b : Bool) : Ticks 1 s (s.deviceCycle b) := by
  have x := ((noTime_timerPhase s b).trans (noTime_oamDmaPhase _)).trans (noTime_serialPhase _)
  have y := x.before (ticks_basePhase _)
  exact y.after (noTime_hdmaGeneral _)

theorem ticks_internal (s : State) : Ticks 1 s s.internal := ticks_deviceCycle s true

theorem ticks_memRead (s : State) (a : Addr) : Ticks 1 s (s.memRead a).2 :=
  (((noTime_fire s _ _).trans (noTime_codeData _ a .data)).trans (noTime_cpuRead _ a)).before (ticks_deviceCycle _ true)

theorem ticks_memWrite (s : State) (a : Addr) (v : Byte) : Ticks 1 s (s.memWrite a v) :=
  (((noTime_fire s _ _).trans (noTime_codeData _ a .data)).trans (noTime_cpuWrite _ a v)).before (ticks_deviceCycle _ true)

theorem noTime_nextPc (s : State) : NoTime s s.nextPc := by
  unfold State.nextPc; split
  · exact noTime_cpu _ _
  · exact noTime_cpu _ _

theorem ticks_fetchOp (s : State) : Ticks 1 s s.fetchOp.2 :=
  ((((noTime_fire s _ _).trans (noTime_codeData _ _ _)).trans (noTime_checkBreakpoint _ _)).trans
    ((noTime_cpuRead s.opcodeHooks s.cpu.pc).trans (noTime_nextPc _))).before (ticks_deviceCycle _ true)

theorem ticks_fetchImm (s : State) : Ticks 1 s s.fetchImm.2 :=
  (((noTime_codeData s s.cpu.pc .execOperand).trans (noTime_cpuRead _ s.cpu.pc)).trans (noTime_cpu _ _)).before
    (ticks_deviceCycle _ true)

theorem ticks_fetchImms (s : State) (n : Nat) : Ticks n s (s.fetchImms n).2 := by
  induction n generalizing s with
  | zero => exact .refl s
  | succ n ih =>
    have h := (ticks_fetchImm s).trans (ih s.fetchImm.2)
    rw [Nat.add_comm] at h
    exact h

theorem ticks_pushByte (s : State) (v : Byte) : Ticks 1 s (s.pushByte v) :=
  (noTime_cpu s _).before (ticks_memWrite _ _ _)

theorem ticks_pushWord (s : State) (v : Addr) : Ticks 2 s (s.pushWord v) := (ticks_pushByte s _).trans (ticks_pushByte _ _)

theorem ticks_popByte (s : State) : Ticks 1 s s.popByte.2 := (ticks_memRead s _).after (noTime_cpu _ _)

theorem ticks_popWord (s : State) : Ticks 2 s s.popWord.2 := (ticks_popByte s).trans (ticks_popByte _)

theorem ticks_jump (s : State) (a : Addr) : Ticks 1 s (s.jump a) := (ticks_internal s).after (noTime_cpu _ _)

theorem ticks_call (s : State) (a : Addr) : Ticks 3 s (s.call a) :=
  ((ticks_internal s).trans (ticks_pushWord _ _)).after (noTime_cpu _ _)

theorem ticks_ret (s : State) : Ticks 3 s s.ret := (ticks_popWord s).trans (ticks_jump _ _)

theorem ticks_interruptReturn (s : State) : Ticks 3 s s.interruptReturn := (ticks_ret s).after (noTime_cpu _ _)

theorem noTime_acknowledge (s : State) (w : Option Nat) : NoTime s (s.acknowledge w) := by
  cases w <;> exact ⟨rfl, rfl, rfl, rfl, .inl rfl⟩

/-- An interrupt dispatch takes 5 M-cycles (60_exceptions.md R213). -/
theorem ticks_dispatch (s : State) : Ticks 5 s s.dispatch := by
  have a : Ticks 2 s s.dispatchEntry := (noTime_cpu s _).before ((ticks_internal _).trans (ticks_internal _))
  have b := (a.trans (ticks_pushByte _ (hiByte s.dispatchReturn))).trans (ticks_pushByte _ (loByte s.dispatchReturn))
  exact (b.after (noTime_acknowledge _ _)).trans (ticks_jump _ _)

theorem ticks_internals (s : State) (n : Nat) : Ticks n s (s.internals n) := by
  induction n generalizing s with
  | zero => exact .refl s
  | succ n ih =>
    have h := (ticks_internal s).trans (ih s.internal)
    rw [Nat.add_comm] at h
    exact h

theorem ticks_haltWake (s : State) : Ticks Config.haltWakeMCycles s s.haltWake :=
  (noTime_cpu s _).before (ticks_internals _ _)

theorem ticks_stallCycle (s : State) : Ticks 1 s s.stallCycle := (ticks_deviceCycle s _).after (noTime_cpu _ _)

theorem ticks_stopCycle (s : State) : Ticks 1 s s.stopCycle :=
  ((noTime_pollInput s).before (ticks_deviceCycle _ false)).after (noTime_cpu _ _)

theorem noTime_startInstr (s : State) : NoTime s s.startInstr := (noTime_cpu s _).trans (noTime_fire _ _ _)

theorem noTime_lowFirst (s : State) (op lo : Byte) : NoTime s (s.lowFirst op lo) := by
  unfold State.lowFirst; split
  · exact noTime_cpu s _
  · exact .refl s

theorem ticks_fetchOperands (s : State) (op : Byte) (n : Nat) : Ticks n s (s.fetchOperands op n).2 := by
  cases n with
  | zero => exact .refl s
  | succ n =>
    have h := ((ticks_fetchImm s).after (noTime_lowFirst _ op s.fetchImm.1)).trans (ticks_fetchImms _ n)
    rw [Nat.add_comm] at h
    exact h

/-- The fetches of an instruction take one M-cycle per byte. -/
theorem ticks_fetchInstr (s : State) : Ticks (1 + (instrLength s.fetchOp.1 - 1)) s s.fetchInstr.2 :=
  (ticks_fetchOp s).trans (ticks_fetchOperands _ _ _)

theorem ticks_readOperand (s : State) (o : Operand8) :
    Ticks (match o with | .reg _ => 0 | .atHL => 1) s (s.readOperand o).2 := by
  cases o
  · exact .refl s
  · exact ticks_memRead s _

theorem ticks_writeOperand (s : State) (o : Operand8) (v : Byte) :
    Ticks (match o with | .reg _ => 0 | .atHL => 1) s (s.writeOperand o v) := by
  cases o
  · exact (noTime_cpu s _).ticks
  · exact ticks_memWrite s _ _

end Sys2Proof.Machine
end

