-- ==== Sys2Proof/Laws/Decode.lean ====
section
/-! SUPPORT. The decoder is total: as many bytes as a first byte asks for are one instruction, and what the fetches of an instruction
give is exactly that many (30_encoding.md R113, R119, R120). -/

namespace Sys2Proof

/-- The length of the instructions in a cell of the base map. -/
def Row.length : Row → Nat
  | .f1 _ => 1
  | .f2 _ => 2
  | .f3 _ => 3
  | .cbPage => 2

/-- Every cell of the base map is filled, with an instruction of the length R113 gives. -/
theorem baseMap_length : ∀ op : Byte, (cellAt baseMap op).map Row.length = some (instrLength op) := by decide +kernel

/-- Every cell of the CB map is filled. -/
theorem cbMap_filled : ∀ op : Byte, (cellAt cbMap op).isSome = true := by decide +kernel

/-- Enough bytes are one instruction and the bytes after it. -/
theorem decode_enough (op : Byte) (tl : List Byte) (h : instrLength op ≤ tl.length + 1) :
    ∃ i, decode (op :: tl) = .ok (i, tl.drop (instrLength op - 1)) := by
  have hb := baseMap_length op
  cases hc : cellAt baseMap op with
  | none => rw [hc] at hb; contradiction
  | some row =>
    rw [hc] at hb
    have hb : Row.length row = instrLength op := Option.some.inj hb
    rw [← hb] at h ⊢
    cases row with
    | f1 i => exact ⟨i, by simp [decode, hc, Row.length]⟩
    | f2 f =>
      cases tl with
      | nil => simp [Row.length] at h
      | cons n tl => exact ⟨f n, by simp [decode, hc, Row.length]⟩
    | f3 f =>
      cases tl with
      | nil => simp [Row.length] at h
      | cons lo tl =>
        cases tl with
        | nil => simp [Row.length] at h
        | cons hi tl => exact ⟨f (word hi lo), by simp [decode, hc, Row.length]⟩
    | cbPage =>
      cases tl with
      | nil => simp [Row.length] at h
      | cons n tl =>
        have hn := cbMap_filled n
        cases hi : cellAt cbMap n with
        | none => rw [hi] at hn; contradiction
        | some i => exact ⟨i, by simp [decode, hc, hi, Row.length]⟩

end Sys2Proof

namespace Sys2Proof.Machine

@[simp] theorem length_fetchImms (s : State) (n : Nat) : (s.fetchImms n).1.length = n := by
  induction n generalizing s with
  | zero => rfl
  | succ n ih => simp [State.fetchImms, ih]

@[simp] theorem length_fetchOperands (s : State) (op : Byte) (n : Nat) : (s.fetchOperands op n).1.length = n := by
  cases n with
  | zero => rfl
  | succ n => simp [State.fetchOperands]

theorem instrLength_pos : ∀ op : Byte, 1 ≤ instrLength op ∧ instrLength op ≤ 3 := by decide +kernel

/-- What an instruction's fetches give is one instruction, with no byte left. -/
theorem decode_fetched (s : State) : ∃ i, decode s.fetchInstr.1 = .ok (i, []) := by
  have h := instrLength_pos s.fetchOp.1
  obtain ⟨i, hi⟩ := decode_enough s.fetchOp.1 (s.fetchOp.2.fetchOperands s.fetchOp.1 (instrLength s.fetchOp.1 - 1)).1 (by simp; omega)
  refine ⟨i, hi.trans ?_⟩
  rw [List.drop_eq_nil_of_le (by simp)]

/-- The instruction part of a step runs an instruction. -/
theorem runInstr_decoded (s : State) :
    ∃ i, decode s.startInstr.fetchInstr.1 = .ok (i, []) ∧ s.runInstr = exec i s.startInstr.fetchInstr.2 := by
  obtain ⟨i, hi⟩ := decode_fetched s.startInstr
  exact ⟨i, hi, by simp [State.runInstr, hi]⟩

end Sys2Proof.Machine
end

