-- ==== Sys2Proof/Laws/Memory.lean ====
section
/-! SUPPORT. The stores: the canonical form is kept by every memory operation, a read after a write gives the value written, and a
write leaves every other offset alone. -/

namespace Sys2Proof.Machine

@[simp] theorem read_write_same (m : Mem) (k : Nat) (v : Byte) : (m.write k v).read k = some v := by
  induction m with
  | nil => simp [Mem.write, Mem.read]
  | cons x m ih =>
    obtain ⟨j, w⟩ := x
    unfold Mem.write
    split
    · simp [Mem.read]
    · split
      · simp [Mem.read]
      · simp [Mem.read, *]

theorem read_write_other (m : Mem) {k i : Nat} (v : Byte) (h : i ≠ k) : (m.write k v).read i = m.read i := by
  induction m with
  | nil => simp [Mem.write, Mem.read, h]
  | cons x m ih =>
    obtain ⟨j, w⟩ := x
    unfold Mem.write
    split
    · simp [Mem.read, h]
    · split
      · subst_vars; simp [Mem.read, h]
      · simp only [Mem.read, ih]

/-- Every offset of a store is above a bound. -/
def Mem.above (m : Mem) (n : Nat) : Prop := ∀ x ∈ m, n < x.1

theorem wf_cons (x : Host.Cell) (m : Mem) : Mem.wf (x :: m) = true ↔ Mem.above m x.1 ∧ Mem.wf m = true := by
  induction m generalizing x with
  | nil => simp [Mem.wf, Mem.above]
  | cons y m ih =>
    simp only [Mem.wf, Bool.and_eq_true, decide_eq_true_eq, ih, Mem.above, List.mem_cons]
    constructor
    · rintro ⟨h, hy, hm⟩
      exact ⟨by rintro z (rfl | hz); exact h; exact h.trans (hy z hz), hy, hm⟩
    · rintro ⟨h, hy, hm⟩
      exact ⟨h y (.inl rfl), hy, hm⟩

theorem above_write {m : Mem} {n k : Nat} (v : Byte) (h : m.above n) (hk : n < k) : (m.write k v).above n := by
  induction m with
  | nil => simpa [Mem.write, Mem.above] using hk
  | cons x m ih =>
    obtain ⟨j, w⟩ := x
    have hm : Mem.above m n := fun y hy => h y (List.mem_cons_of_mem _ hy)
    have hj : n < j := h _ List.mem_cons_self
    have ih := ih hm
    unfold Mem.write
    split
    · rintro y (_ | ⟨_, _ | ⟨_, hy⟩⟩)
      · exact hk
      · exact hj
      · exact hm y hy
    · split
      · rintro y (_ | ⟨_, hy⟩)
        · exact hk
        · exact hm y hy
      · rintro y (_ | ⟨_, hy⟩)
        · exact hj
        · exact ih y hy

/-- A write keeps the canonical form. -/
theorem wf_write {m : Mem} (k : Nat) (v : Byte) (h : m.wf = true) : (m.write k v).wf = true := by
  induction m with
  | nil => rfl
  | cons x m ih =>
    obtain ⟨j, w⟩ := x
    obtain ⟨ha, hm⟩ := (wf_cons _ _).1 h
    unfold Mem.write
    split
    · rename_i hk
      refine (wf_cons _ _).2 ⟨?_, h⟩
      rintro y (_ | ⟨_, hy⟩)
      · exact hk
      · exact hk.trans (ha y hy)
    · split
      · rename_i hk
        subst hk
        exact (wf_cons _ _).2 ⟨ha, hm⟩
      · exact (wf_cons _ _).2 ⟨above_write v ha (by simp only; omega), ih hm⟩

theorem wf_writeAll {m : Mem} (k : Nat) (vs : List Byte) (h : m.wf = true) : (m.writeAll k vs).wf = true := by
  induction vs generalizing m k with
  | nil => exact h
  | cons v vs ih => exact ih (k + 1) (wf_write k v h)

/-- The store of a cartridge image is in canonical form. -/
theorem wf_romOf (image : List Byte) : (romOf image).wf = true := by
  have h : ∀ (l : List Byte) (n : Nat), Mem.wf ((l.zipIdx n).map fun p => (p.2, p.1)) = true ∧
      ∀ x ∈ (l.zipIdx n).map (fun p => (p.2, p.1)), n ≤ x.1 := by
    intro l
    induction l with
    | nil => intro n; simp [Mem.wf]
    | cons v l ih =>
      intro n
      have := ih (n + 1)
      simp only [List.zipIdx_cons, List.map_cons]
      refine ⟨(wf_cons _ _).2 ⟨fun x hx => this.2 x hx, this.1⟩, ?_⟩
      rintro x (_ | ⟨_, hx⟩)
      · exact Nat.le_refl _
      · exact Nat.le_of_succ_le (this.2 x hx)
  exact (h image 0).1

/-! RAM bytes. -/

theorem ramByte_setRamByte_same (s : State) (k : Store) (o : Nat) (v : Byte) : (s.setRamByte k o v).ramByte k o = v := by
  cases k <;> simp [State.ramByte, State.setRamByte, State.setStore, State.store]

theorem ramByte_setRamByte_other (s : State) {k j : Store} {o i : Nat} (v : Byte) (h : (j, i) ≠ (k, o)) :
    (s.setRamByte k o v).ramByte j i = s.ramByte j i := by
  cases k <;> cases j <;> simp_all [State.ramByte, State.setRamByte, State.setStore, State.store, read_write_other]

end Sys2Proof.Machine
end

