-- ==== Sys2Proof/Laws/Frame.lean ====
section
/-! SUPPORT. The frame of the shared operations on a quiet machine: an M-cycle and a read keep memory and the special registers, a
write changes at most the byte its address selects. -/

namespace Sys2Proof.Machine

/-- What an operation that stores nothing keeps. -/
structure SameFrame (s t : State) : Prop where
  memory : t.memory = s.memory
  control : t.control = s.control
  quiet : s.Quiet → t.Quiet

theorem SameFrame.refl (s : State) : SameFrame s s := ⟨rfl, rfl, id⟩

theorem SameFrame.trans {s t u : State} (h : SameFrame s t) (k : SameFrame t u) : SameFrame s u :=
  ⟨k.memory.trans h.memory, k.control.trans h.control, k.quiet ∘ h.quiet⟩

/-- An operation that touches only the CPU keeps the frame. -/
theorem SameFrame.cpu (s : State) (c : Cpu) : SameFrame s { s with cpu := c } := ⟨rfl, rfl, id⟩

theorem sameFrame_note (s : State) (e : HostEvent) : SameFrame s (s.note e) := ⟨rfl, rfl, id⟩

theorem sameFrame_nextDraw (s : State) : SameFrame s s.nextDraw := ⟨rfl, rfl, id⟩

theorem sameFrame_noteCart (s : State) (v : Byte) : SameFrame s (s.noteCart v) := ⟨rfl, rfl, id⟩

theorem sameFrame_sampleLines (s : State) (m : Byte) : SameFrame s (s.sampleLines m) := ⟨rfl, rfl, id⟩

theorem sameFrame_checkBreakpoint (s : State) (a : Addr) : SameFrame s (s.checkBreakpoint a) := by
  unfold State.checkBreakpoint; split
  · exact ⟨rfl, rfl, id⟩
  · exact .refl s

/-! Hooks, when the host makes no calls from them. -/

theorem sameFrame_callHook {s : State} (h : s.host.replies = []) (c : HookCall) : SameFrame s (s.callHook c).2 := by
  unfold State.callHook; rw [h]
  exact ⟨rfl, rfl, id⟩

theorem sameFrame_fire {s : State} (h : s.host.replies = []) (b : Bool) (c : HookCall) : SameFrame s (s.fire b c) := by
  unfold State.fire; split
  · exact sameFrame_callHook h c
  · exact .refl s

theorem sameFrame_codeData {s : State} (h : s.host.replies = []) (a : Addr) (k : CdlFlag) : SameFrame s (s.codeData a k) :=
  sameFrame_fire h _ _

theorem sameFrame_pollInput {s : State} (h : s.host.replies = []) : SameFrame s s.pollInput := by
  unfold State.pollInput; split
  · exact (sameFrame_callHook h _).trans (sameFrame_sampleLines _ _)
  · exact sameFrame_sampleLines _ _

/-! Reads. -/

theorem sameFrame_resolveRead (s : State) (a : Addr) : SameFrame s (s.resolveRead a).2 := by
  unfold State.resolveRead; split
  · split
    · unfold State.bootRead; split
      · exact .refl s
      · exact sameFrame_nextDraw s
    · unfold State.romRead; split
      · exact sameFrame_noteCart _ _
      · exact sameFrame_nextDraw s
  · exact sameFrame_nextDraw s
  · unfold State.cartRead; split
    · exact sameFrame_noteCart _ _
    · exact sameFrame_noteCart _ _
    · exact sameFrame_noteCart _ _
    · exact sameFrame_nextDraw s
  all_goals first | exact .refl s | exact sameFrame_nextDraw s

theorem sameFrame_cpuRead {s : State} (h : s.host.replies = []) (a : Addr) : SameFrame s (s.cpuRead a).2 := by
  unfold State.cpuRead; split
  · exact sameFrame_nextDraw s
  · split
    · exact (sameFrame_pollInput h).trans (sameFrame_resolveRead _ _)
    · exact sameFrame_resolveRead _ _

/-! Devices. -/

theorem writeDiv_tma (t : Timer) (n : BitVec 16) (c : BitVec 3) : (t.change n c).tma = t.tma ∧ (t.change n c).tac = c := by
  unfold Timer.change; dsimp only; split <;> exact ⟨rfl, rfl⟩

theorem endCycle_tma (t : Timer) (b : Bool) : (t.endCycle b).tma = t.tma ∧ (t.endCycle b).tac = t.tac := by
  unfold Timer.endCycle
  cases b
  · exact ⟨rfl, rfl⟩
  · exact writeDiv_tma _ _ _

theorem sameFrame_timerPhase (s : State) (b : Bool) : SameFrame s (s.timerPhase b) :=
  ⟨rfl, by simp [State.control, endCycle_tma], id⟩

theorem endCycle_fast (p : Serial) (q : Peer) : (p.endCycle q).fast = p.fast ∧ (p.endCycle q).internal = p.internal := by
  unfold Serial.endCycle; split
  · exact ⟨rfl, rfl⟩
  · split <;> exact ⟨rfl, rfl⟩

theorem sameFrame_serialPhase {s : State} (h : s.host.replies = []) : SameFrame s s.serialPhase := by
  have x : SameFrame s s.advanceSerial := ⟨rfl, by simp [State.control, endCycle_fast], id⟩
  exact x.trans (sameFrame_fire (s := s.advanceSerial) h _ _)

theorem sameFrame_frameEvent (s : State) (f : Frame) : SameFrame s (s.frameEvent f) := ⟨rfl, rfl, id⟩

theorem sameFrame_startLine {s : State} (h : s.host.replies = []) (l : Nat) : SameFrame s (s.startLine l) := by
  unfold State.startLine; dsimp only; split
  · exact (sameFrame_fire h _ _).trans ⟨rfl, rfl, id⟩
  · exact sameFrame_fire h _ _

theorem sameFrame_linePhase {s : State} (h : s.host.replies = []) : SameFrame s s.linePhase := by
  unfold State.linePhase; split
  · split
    · exact sameFrame_startLine h _
    · exact .refl s
  · split
    · exact sameFrame_frameEvent _ _
    · exact .refl s

theorem sameFrame_rtcPhase (s : State) : SameFrame s s.rtcPhase := by
  unfold State.rtcPhase; split
  · exact ⟨rfl, rfl, id⟩
  · exact .refl s

theorem sameFrame_samplePhase (s : State) : SameFrame s s.samplePhase := by
  unfold State.samplePhase; split
  · exact ⟨rfl, rfl, id⟩
  · exact .refl s

theorem hblankPhase_quiet {s : State} (h : s.Quiet) : s.hblankPhase = s := by
  simp [State.hblankPhase, h.2.2.2.1]

theorem hdmaGeneral_quiet {s : State} (h : s.Quiet) : s.hdmaGeneral = s := by
  unfold State.hdmaGeneral; rw [h.2.2.2.2]
  obtain ⟨-, -, -, -, hp⟩ := h
  show { s with hdma := { s.hdma with pending := 0 } } = s
  rw [← hp]

theorem oamDmaPhase_quiet {s : State} (h : s.Quiet) : s.oamDmaPhase = s := by
  simp [State.oamDmaPhase, h.2.1, h.2.2.1]

theorem sameFrame_baseTick {s : State} (h : s.Quiet) : SameFrame s s.baseTick := by
  have a := sameFrame_linePhase h.1
  have b : SameFrame s s.linePhase.statPhase := a.trans ⟨rfl, rfl, id⟩
  unfold State.baseTick
  rw [hblankPhase_quiet (b.quiet h)]
  have c : SameFrame s s.linePhase.statPhase.advanceLine := b.trans ⟨rfl, rfl, id⟩
  exact ((c.trans (sameFrame_rtcPhase _)).trans (sameFrame_samplePhase _)).trans ⟨rfl, rfl, id⟩

theorem sameFrame_basePhase {s : State} (h : s.Quiet) : SameFrame s s.basePhase := by
  have a := sameFrame_baseTick h
  have b := a.trans (sameFrame_baseTick (a.quiet h))
  unfold State.basePhase; split
  · exact b
  · have c := b.trans (sameFrame_baseTick (b.quiet h))
    exact c.trans (sameFrame_baseTick (c.quiet h))

/-- The device phase of an M-cycle keeps memory and the special registers of a quiet machine. -/
theorem sameFrame_deviceCycle {s : State} (h : s.Quiet) (b : Bool) : SameFrame s (s.deviceCycle b) := by
  have a := sameFrame_timerPhase s b
  have c := a.trans (sameFrame_serialPhase (a.quiet h).1)
  have d := c.trans (sameFrame_basePhase (c.quiet h))
  have e : SameFrame s (s.timerPhase b).serialPhase.basePhase.countCycle := d.trans ⟨rfl, rfl, id⟩
  unfold State.deviceCycle
  rw [oamDmaPhase_quiet (a.quiet h), hdmaGeneral_quiet (e.quiet h)]
  exact e

theorem baseTick_cpu {s : State} (h : s.Quiet) : s.baseTick.cpu = s.cpu := by
  have b : SameFrame s s.linePhase.statPhase := (sameFrame_linePhase h.1).trans ⟨rfl, rfl, id⟩
  have e : s.linePhase.statPhase.hblankPhase = s.linePhase.statPhase := hblankPhase_quiet (b.quiet h)
  show s.linePhase.statPhase.hblankPhase.advanceLine.rtcPhase.samplePhase.cpu = _
  rw [samplePhase_cpu, rtcPhase_cpu, e]
  exact linePhase_cpu s

/-- The device phase of an M-cycle of a quiet machine changes nothing of the CPU. -/
theorem deviceCycle_cpu {s : State} (h : s.Quiet) (b : Bool) : (s.deviceCycle b).cpu = s.cpu := by
  have a := sameFrame_timerPhase s b
  have c := a.trans (sameFrame_serialPhase (a.quiet h).1)
  have d := c.trans (sameFrame_basePhase (c.quiet h))
  have e : SameFrame s (s.timerPhase b).serialPhase.basePhase.countCycle := d.trans ⟨rfl, rfl, id⟩
  have base : ∀ {t : State}, t.Quiet → t.basePhase.cpu = t.cpu := by
    intro t q
    have q2 := (sameFrame_baseTick q).quiet q
    have q3 := (sameFrame_baseTick q2).quiet q2
    have q4 := (sameFrame_baseTick q3).quiet q3
    unfold State.basePhase; split
    · rw [baseTick_cpu q2, baseTick_cpu q]
    · rw [baseTick_cpu q4, baseTick_cpu q3, baseTick_cpu q2, baseTick_cpu q]
  unfold State.deviceCycle
  rw [oamDmaPhase_quiet (a.quiet h), hdmaGeneral_quiet (e.quiet h)]
  exact (base (c.quiet h)).trans (serialPhase_cpu _)

theorem sameFrame_internal {s : State} (h : s.Quiet) : SameFrame s s.internal := sameFrame_deviceCycle h true

theorem internals_succ (s : State) (n : Nat) : s.internals (n + 1) = (s.internals n).internal := by
  induction n generalizing s with
  | zero => rfl
  | succ n ih => exact ih s.internal

theorem internals_quiet {s : State} (h : s.Quiet) (n : Nat) : (s.internals n).Quiet := by
  induction n generalizing s with
  | zero => exact h
  | succ n ih => exact ih ((sameFrame_internal h).quiet h)

/-- `MemRead` keeps memory and the special registers of a quiet machine. -/
theorem sameFrame_memRead {s : State} (h : s.Quiet) (a : Addr) : SameFrame s (s.memRead a).2 := by
  have x := sameFrame_fire h.1 s.host.hooks.read (.read a s.hookOffset)
  have y := x.trans (sameFrame_codeData (x.quiet h).1 a .data)
  have z := y.trans (sameFrame_cpuRead (y.quiet h).1 a)
  exact z.trans (sameFrame_deviceCycle (z.quiet h) true)

theorem sameFrame_fetchOp {s : State} (h : s.Quiet) : SameFrame s s.fetchOp.2 := by
  have x := sameFrame_fire h.1 s.host.hooks.exec (.exec s.cpu.pc s.hookOffset)
  have y := (x.trans (sameFrame_codeData (x.quiet h).1 s.cpu.pc .execOpcode)).trans (sameFrame_checkBreakpoint _ s.cpu.pc)
  have z := y.trans (sameFrame_cpuRead (y.quiet h).1 s.cpu.pc)
  have w : SameFrame s (s.opcodeHooks.cpuRead s.cpu.pc).2.nextPc := by
    refine SameFrame.trans z ?_
    unfold State.nextPc; split
    · exact .cpu _ _
    · exact .cpu _ _
  exact w.trans (sameFrame_deviceCycle (w.quiet h) true)

theorem sameFrame_fetchImm {s : State} (h : s.Quiet) : SameFrame s s.fetchImm.2 := by
  have y := sameFrame_codeData h.1 s.cpu.pc .execOperand
  have z := y.trans (sameFrame_cpuRead (y.quiet h).1 s.cpu.pc)
  have w := z.trans (.cpu _ { (((s.codeData s.cpu.pc .execOperand).cpuRead s.cpu.pc).2).cpu with pc := s.cpu.pc + 1 })
  exact w.trans (sameFrame_deviceCycle (w.quiet h) true)

theorem sameFrame_popByte {s : State} (h : s.Quiet) : SameFrame s s.popByte.2 := (sameFrame_memRead h _).trans (.cpu _ _)

theorem sameFrame_popWord {s : State} (h : s.Quiet) : SameFrame s s.popWord.2 :=
  (sameFrame_popByte h).trans (sameFrame_popByte ((sameFrame_popByte h).quiet h))

theorem sameFrame_jump {s : State} (h : s.Quiet) (a : Addr) : SameFrame s (s.jump a) := (sameFrame_internal h).trans (.cpu _ _)

theorem sameFrame_ret {s : State} (h : s.Quiet) : SameFrame s s.ret :=
  (sameFrame_popWord h).trans (sameFrame_jump ((sameFrame_popWord h).quiet h) _)

/-! Writes. -/

theorem SameFrame.kept {s t : State} (h : SameFrame s t) (cells : List (Option (Store × Nat))) (ie : Bool) :
    s.MemoryKept t cells ie := by
  have hm := h.memory
  have hc := congrArg Control.model h.control
  simp only [State.memory, Memory.mk.injEq] at hm
  obtain ⟨h1, h2, h3, h4, h5, h6, h7⟩ := hm
  refine ⟨fun off => by rw [h1], fun k off _ => ?_, fun _ => h7⟩
  have : t.model = s.model := hc
  cases k <;> simp [State.ramByte, State.store, *]

theorem MemoryKept.trans {s t u : State} {c d : List (Option (Store × Nat))} {i j : Bool}
    (h : s.MemoryKept t c i) (k : t.MemoryKept u d j) : s.MemoryKept u (c ++ d) (i || j) := by
  refine ⟨fun off => (k.1 off).trans (h.1 off), fun x off hx => ?_, fun hij => ?_⟩
  · rw [List.mem_append, not_or] at hx
    exact (k.2.1 x off hx.2).trans (h.2.1 x off hx.1)
  · simp only [Bool.or_eq_false_iff] at hij
    exact (k.2.2 hij.2).trans (h.2.2 hij.1)

/-- The cell an address selects depends only on the special registers. -/
theorem cellOf_control {s t : State} (h : t.control = s.control) (a : Addr) : t.cellOf a = s.cellOf a := by
  have hm : t.model = s.model := congrArg Control.model h
  have hv : t.vbk = s.vbk := congrArg Control.vbk h
  have hs : t.svbk = s.svbk := congrArg Control.svbk h
  have hc : { t.cart with lastValue := 0, lastTick := 0 } = { s.cart with lastValue := 0, lastTick := 0 } :=
    congrArg Control.cart h
  have hr : t.region a = s.region a := by
    unfold State.region State.vramOffset State.vramBank State.wramOffset State.wramBank
    rw [hm, hv, hs]
  have hw : ∀ b, t.cart.window b = s.cart.window b := fun b =>
    show Cart.window { t.cart with lastValue := 0, lastTick := 0 } b =
      Cart.window { s.cart with lastValue := 0, lastTick := 0 } b from congrArg (Cart.window · b) hc
  simp only [State.cellOf, hr, hw]

theorem setRamByte_kept (s : State) (k : Store) (o : Nat) (v : Byte) : s.MemoryKept (s.setRamByte k o v) [some (k, o)] false := by
  refine ⟨fun off => by cases k <;> rfl, fun j i h => ?_, fun _ => by cases k <;> rfl⟩
  exact ramByte_setRamByte_other s v (by simpa using h)

/-- A write changes no byte of memory but the one its address selects, and IE only at 0xFFFF. -/
theorem resolveWrite_kept (s : State) (a : Addr) (v : Byte) :
    s.MemoryKept (s.resolveWrite a v) [s.cellOf a] (a == 0xFFFF) := by
  have keep : ∀ t : State, t.rom = s.rom → t.model = s.model → t.vram = s.vram → t.wram = s.wram → t.oam = s.oam →
      t.hram = s.hram → t.cartRam = s.cartRam → t.ie = s.ie → s.MemoryKept t [s.cellOf a] (a == 0xFFFF) := by
    intro t h1 h2 h3 h4 h5 h6 h7 h8
    refine ⟨fun off => by rw [h1], fun k off _ => ?_, fun _ => h8⟩
    cases k <;> simp [State.ramByte, State.store, *]
  have weak : ∀ {t : State} {c : Option (Store × Nat)}, s.MemoryKept t [c] false → s.MemoryKept t [c] (a == 0xFFFF) :=
    fun h => ⟨h.1, h.2.1, fun _ => h.2.2 rfl⟩
  have gated : ∀ (k : Store) (o : Nat) (b : Bool), s.MemoryKept
      (s.nextDraw.setStore k (if b then (s.store k).write o v else s.store k)) [some (k, o)] false := by
    intro k o b
    cases b
    · cases k <;> exact ⟨fun _ => rfl, fun j _ _ => by cases j <;> rfl, fun _ => rfl⟩
    · have := setRamByte_kept s.nextDraw k o v
      cases k <;> exact this
  unfold State.resolveWrite; split
  · exact keep s rfl rfl rfl rfl rfl rfl rfl rfl
  · rename_i hdma
    have hcell : s.cellOf a = (match s.region a with
      | .vram off => some (.vram, off)
      | .wram off => some (.wram, off)
      | .oam off => some (.oam, off)
      | .hram off => some (.hram, off)
      | .cart a => match s.cart.window a with
        | .ram off | .nibble off => some (.cartRam, off)
        | .rtc _ | .openBus => none
      | .low _ | .unusable | .io _ | .ie => none) := rfl
    split <;> rename_i hreg <;> rw [hreg] at hcell
    · exact keep _ rfl rfl rfl rfl rfl rfl rfl rfl
    · rw [hcell]; exact weak (gated .vram _ _)
    · unfold State.cartWrite; dsimp only
      split <;> rename_i hwin <;> simp only [hwin] at hcell
      · rw [hcell]; exact weak (setRamByte_kept (s.noteCart v) _ _ _)
      · rw [hcell]; exact weak (setRamByte_kept (s.noteCart v) _ _ _)
      · exact keep _ rfl rfl rfl rfl rfl rfl rfl rfl
      · exact keep _ rfl rfl rfl rfl rfl rfl rfl rfl
    · rw [hcell]; exact weak (setRamByte_kept s _ _ _)
    · rw [hcell]; exact weak (gated .oam _ _)
    · exact keep _ rfl rfl rfl rfl rfl rfl rfl rfl
    · rename_i r
      cases r <;> exact keep _ rfl rfl rfl rfl rfl rfl rfl rfl
    · rw [hcell]; exact weak (setRamByte_kept s _ _ _)
    · have ha : a = 0xFFFF := by
        simp only [State.region] at hreg
        repeat' split at hreg
        all_goals first
          | contradiction
          | exact BitVec.eq_of_toNat_eq (by have := a.isLt; change a.toNat = 65535; omega)
      exact ⟨fun _ => rfl, fun k _ _ => by cases k <;> rfl, by simp [ha]⟩

theorem cpuWrite_kept {s : State} (h : s.host.replies = []) (a : Addr) (v : Byte) :
    s.MemoryKept (s.cpuWrite a v) [s.cellOf a] (a == 0xFFFF) := by
  unfold State.cpuWrite; split
  · rename_i hp
    have ha : a = 0xFF00 := by simpa [isP1] using hp
    subst ha
    have hr : (s.resolveWrite 0xFF00 v).host.replies = [] := by
      unfold State.resolveWrite; split
      · exact h
      · exact h
    have := MemoryKept.trans (resolveWrite_kept s 0xFF00 v) ((sameFrame_pollInput hr).kept [] false)
    simpa using this
  · exact resolveWrite_kept s a v

theorem ite_ne {c : Prop} [Decidable c] {x y z : IoReg} (hy : y ≠ x) (hz : z ≠ x) : (if c then y else z) ≠ x := by
  split
  · exact hy
  · exact hz

theorem ioReg_dma {m : Model} {a : Addr} (h : ioReg m a = .dma) : a = 0xFF46 := by
  refine BitVec.eq_of_toNat_eq ?_
  by_contra hn
  have hn : ¬a.toNat = 0xFF46 := hn
  revert h
  unfold ioReg
  dsimp only
  rw [if_neg hn]
  repeat' apply ite_ne
  all_goals first
    | exact IoReg.noConfusion
    | cases m <;> exact IoReg.noConfusion

theorem ioReg_hdma {m : Model} {a : Addr} (h : ioReg m a = .hdmaControl) : a = 0xFF55 := by
  refine BitVec.eq_of_toNat_eq ?_
  by_contra hn
  have hn : ¬a.toNat = 0xFF55 := hn
  revert h
  unfold ioReg
  dsimp only
  rw [if_neg hn]
  repeat' apply ite_ne
  all_goals first
    | exact IoReg.noConfusion
    | cases m <;> exact IoReg.noConfusion

/-- A write that starts no DMA leaves a quiet machine quiet. -/
theorem resolveWrite_quiet {s : State} (h : s.Quiet) {a : Addr} (v : Byte) (hd : startsDma a = false) :
    (s.resolveWrite a v).Quiet := by
  unfold State.resolveWrite; split
  · exact h
  · split
    · exact h
    · exact h
    · unfold State.cartWrite; dsimp only; split <;> exact h
    · exact h
    · exact h
    · exact h
    · rename_i r hr
      have hreg : r = ioReg s.model a := by
        simp only [State.region] at hr
        repeat' split at hr
        all_goals first
          | contradiction
          | exact (Region.io.inj hr).symm
      simp only [startsDma, Bool.or_eq_false_iff, beq_eq_false_iff_ne] at hd
      have h1 : r ≠ .dma := fun h' => hd.1 (ioReg_dma (hreg.symm.trans h'))
      have h2 : r ≠ .hdmaControl := fun h' => hd.2 (ioReg_hdma (hreg.symm.trans h'))
      cases r <;> first | exact absurd rfl h1 | exact absurd rfl h2 | exact h
    · exact h
    · exact h

theorem cpuWrite_quiet {s : State} (h : s.Quiet) {a : Addr} (v : Byte) (hd : startsDma a = false) : (s.cpuWrite a v).Quiet := by
  have := resolveWrite_quiet h v hd
  unfold State.cpuWrite; split
  · exact (sameFrame_pollInput this.1).quiet this
  · exact this

/-- A write outside the bank controllers and the I/O window keeps the special registers. -/
theorem resolveWrite_control (s : State) {a : Addr} (v : Byte) (hc : setsControl a = false) :
    (s.resolveWrite a v).control = s.control := by
  unfold State.resolveWrite; split
  · rfl
  · split <;> rename_i hr
    · simp only [State.region] at hr
      simp only [setsControl, Bool.or_eq_false_iff, decide_eq_false_iff_not] at hc
      repeat' split at hr
      all_goals first
        | contradiction
        | exact absurd (by assumption) hc.1
    · rfl
    · unfold State.cartWrite; dsimp only; split <;> rfl
    · rfl
    · rfl
    · rfl
    · simp only [State.region] at hr
      simp only [setsControl, Bool.or_eq_false_iff, Bool.and_eq_false_iff, decide_eq_false_iff_not] at hc
      repeat' split at hr
      all_goals first
        | contradiction
        | omega
    · rfl
    · rfl

theorem cpuWrite_control (s : State) {a : Addr} (v : Byte) (hc : setsControl a = false) :
    (s.cpuWrite a v).control = s.control := by
  unfold State.cpuWrite; split
  · rename_i hp
    have ha : a = 0xFF00 := by simpa [isP1] using hp
    subst ha
    exact absurd hc (by decide)
  · exact resolveWrite_control s v hc

/-- What a store of one byte by a quiet machine leaves: every byte but the one its address selects; the special registers, unless it
reaches one; and the machine quiet, unless it starts a DMA. -/
theorem memWrite_frame {s : State} (h : s.Quiet) (a : Addr) (v : Byte) (hd : startsDma a = false) :
    s.MemoryKept (s.memWrite a v) [s.cellOf a] (a == 0xFFFF) ∧ (s.memWrite a v).Quiet ∧
    (setsControl a = false → (s.memWrite a v).control = s.control) := by
  have x := sameFrame_fire h.1 s.host.hooks.write (.write a s.hookOffset)
  have y := x.trans (sameFrame_codeData (x.quiet h).1 a .data)
  have q := y.quiet h
  have z := cpuWrite_quiet q v hd
  have w := sameFrame_deviceCycle z true
  refine ⟨?_, w.quiet z, fun hc => w.control.trans ((cpuWrite_control _ v hc).trans y.control)⟩
  have k := MemoryKept.trans (MemoryKept.trans (y.kept [] false) (cpuWrite_kept q.1 a v)) (w.kept [] false)
  rw [cellOf_control y.control] at k
  simpa [State.memWrite] using k

end Sys2Proof.Machine
end

