-- ==== Sys2Proof/Laws/Code.lean ====
section
/-! SUPPORT. Reads of ROM, the boot ROM and plain RAM by a quiet machine give the bytes there, and so do the fetches of an instruction
(20_memory.md R58, R60, R62, R64, R66; 30_encoding.md R119). -/

namespace Sys2Proof.Machine

/-- The region of an address depends only on the special registers. -/
theorem region_control {s t : State} (h : t.control = s.control) (a : Addr) : t.region a = s.region a := by
  have hm : t.model = s.model := congrArg Control.model h
  have hv : t.vbk = s.vbk := congrArg Control.vbk h
  have hs : t.svbk = s.svbk := congrArg Control.svbk h
  unfold State.region State.vramOffset State.vramBank State.wramOffset State.wramBank
  rw [hm, hv, hs]

/-- The cartridge's banks depend only on the special registers. -/
theorem romOffset_control {s t : State} (h : t.control = s.control) (a : Addr) : t.cart.romOffset a = s.cart.romOffset a := by
  have hc : { t.cart with lastValue := 0, lastTick := 0 } = { s.cart with lastValue := 0, lastTick := 0 } :=
    congrArg Control.cart h
  exact show Cart.romOffset { t.cart with lastValue := 0, lastTick := 0 } a =
    Cart.romOffset { s.cart with lastValue := 0, lastTick := 0 } a from congrArg (Cart.romOffset · a) hc

theorem SameFrame.ramByte {s t : State} (h : SameFrame s t) (k : Store) (o : Nat) : t.ramByte k o = s.ramByte k o :=
  (h.kept [] false).2.1 k o (by simp)

/-- What an address holds depends only on memory and the special registers. -/
theorem codeByte_same {s t : State} (h : SameFrame s t) (a : Addr) : t.codeByte a = s.codeByte a := by
  have hm : t.model = s.model := congrArg Control.model h.control
  have hb : t.bootMapped = s.bootMapped := congrArg Control.bootMapped h.control
  have hr : t.rom = s.rom := congrArg Memory.rom h.memory
  have hi : ∀ b, t.inBootRom b = s.inBootRom b := fun b => by unfold State.inBootRom; rw [hm, hb]
  have hj : t.bootRom = s.bootRom := congrArg Control.bootRom h.control
  unfold State.codeByte
  rw [region_control h.control]
  split
  · rw [hi, hj, hr, romOffset_control h.control]
  · rw [h.ramByte]
  · rw [h.ramByte]
  all_goals rfl

theorem codeBytes_same {s t : State} (h : SameFrame s t) (a : Addr) (n : Nat) : t.codeBytes a n = s.codeBytes a n := by
  induction n generalizing a with
  | zero => rfl
  | succ n ih => simp only [State.codeBytes, codeByte_same h, ih]

/-- A read of ROM, the boot ROM or plain RAM gives the byte there. -/
theorem resolveRead_code {s : State} {a : Addr} {v : Byte} (h : s.codeByte a = some v) : (s.resolveRead a).1 = v := by
  unfold State.codeByte at h
  unfold State.resolveRead
  cases hr : s.region a <;> simp only [hr] at h ⊢ <;> try contradiction
  · split at h
    · rw [if_pos (by assumption)]
      unfold State.bootRead
      rw [h]
    · rw [if_neg (by assumption)]
      unfold State.romRead
      rw [h]
  · exact Option.some.inj h
  · exact Option.some.inj h

theorem codeByte_not_p1 {s : State} {a : Addr} {v : Byte} (h : s.codeByte a = some v) : isP1 a = false := by
  cases hp : isP1 a with
  | false => rfl
  | true =>
    have ha : a = 0xFF00 := by simpa [isP1] using hp
    subst ha
    simp [State.codeByte, State.region] at h

theorem cpuRead_code {s : State} (q : s.Quiet) {a : Addr} {v : Byte} (h : s.codeByte a = some v) : (s.cpuRead a).1 = v := by
  unfold State.cpuRead
  rw [if_neg (by simp [State.dmaBlocks, q.2.2.1]), if_neg (by simp [codeByte_not_p1 h])]
  exact resolveRead_code h

theorem memRead_code {s : State} (q : s.Quiet) {a : Addr} {v : Byte} (h : s.codeByte a = some v) : (s.memRead a).1 = v := by
  have x := sameFrame_fire q.1 s.host.hooks.read (.read a s.hookOffset)
  have y := x.trans (sameFrame_codeData (x.quiet q).1 a .data)
  exact cpuRead_code (y.quiet q) ((codeByte_same y a).trans h)

theorem fetchImm_code {s : State} (q : s.Quiet) {v : Byte} (h : s.codeByte s.cpu.pc = some v) : s.fetchImm.1 = v := by
  have y := sameFrame_codeData q.1 s.cpu.pc .execOperand
  exact cpuRead_code (y.quiet q) ((codeByte_same y _).trans h)

theorem fetchOp_code {s : State} (q : s.Quiet) {v : Byte} (h : s.codeByte s.cpu.pc = some v) : s.fetchOp.1 = v := by
  have x := sameFrame_fire q.1 s.host.hooks.exec (.exec s.cpu.pc s.hookOffset)
  have y := (x.trans (sameFrame_codeData (x.quiet q).1 s.cpu.pc .execOpcode)).trans (sameFrame_checkBreakpoint _ s.cpu.pc)
  exact cpuRead_code (y.quiet q) ((codeByte_same y _).trans h)

theorem sameFrame_fetchImms {s : State} (q : s.Quiet) (n : Nat) : SameFrame s (s.fetchImms n).2 := by
  induction n generalizing s with
  | zero => exact .refl s
  | succ n ih => exact (sameFrame_fetchImm q).trans (ih ((sameFrame_fetchImm q).quiet q))

theorem fetchImms_code {s : State} (q : s.Quiet) {n : Nat} {vs : List Byte} (h : s.codeBytes s.cpu.pc n = some vs) :
    (s.fetchImms n).1 = vs := by
  induction n generalizing s vs with
  | zero => exact Option.some.inj h
  | succ n ih =>
    unfold State.codeBytes at h
    split at h
    · rename_i v ws h1 h2
      obtain rfl := Option.some.inj h
      have f := sameFrame_fetchImm q
      have hp : s.fetchImm.2.cpu.pc = s.cpu.pc + 1 := congrArg Cpu.pc (fetchImm_core s)
      have e := ih (f.quiet q) (vs := ws) (by rw [hp, codeBytes_same f]; exact h2)
      show s.fetchImm.1 :: (s.fetchImm.2.fetchImms n).1 = _
      rw [fetchImm_code q h1, e]
    · contradiction

theorem sameFrame_lowFirst (s : State) (op lo : Byte) : SameFrame s (s.lowFirst op lo) := by
  unfold State.lowFirst; split
  · exact .cpu s _
  · exact .refl s

theorem sameFrame_fetchOperands {s : State} (q : s.Quiet) (op : Byte) (n : Nat) : SameFrame s (s.fetchOperands op n).2 := by
  cases n with
  | zero => exact .refl s
  | succ n =>
    have f := (sameFrame_fetchImm q).trans (sameFrame_lowFirst _ op s.fetchImm.1)
    exact f.trans (sameFrame_fetchImms (f.quiet q) n)

theorem sameFrame_fetchInstr {s : State} (q : s.Quiet) : SameFrame s s.fetchInstr.2 :=
  (sameFrame_fetchOp q).trans (sameFrame_fetchOperands ((sameFrame_fetchOp q).quiet q) _ _)

/-- The early write of a low register leaves PC where it is. -/
theorem lowFirst_pc (s : State) (op lo : Byte) : (s.lowFirst op lo).cpu.pc = s.cpu.pc := by
  unfold State.lowFirst State.setReg Cpu.setReg
  split <;> [split; skip] <;> rfl

theorem fetchOperands_code {s : State} (q : s.Quiet) (op : Byte) {n : Nat} {vs : List Byte}
    (h : s.codeBytes s.cpu.pc n = some vs) : (s.fetchOperands op n).1 = vs := by
  cases n with
  | zero => exact Option.some.inj h
  | succ n =>
    unfold State.codeBytes at h
    split at h
    · rename_i v ws h1 h2
      obtain rfl := Option.some.inj h
      have f := (sameFrame_fetchImm q).trans (sameFrame_lowFirst _ op s.fetchImm.1)
      have hp : (s.fetchImm.2.lowFirst op s.fetchImm.1).cpu.pc = s.cpu.pc + 1 :=
        (lowFirst_pc _ _ _).trans (congrArg Cpu.pc (fetchImm_core s))
      have e := fetchImms_code (f.quiet q) (vs := ws) (n := n) (by rw [hp, codeBytes_same f]; exact h2)
      show s.fetchImm.1 :: ((s.fetchImm.2.lowFirst op s.fetchImm.1).fetchImms n).1 = _
      rw [fetchImm_code q h1] at e ⊢
      rw [e]
    · contradiction

theorem sameFrame_startInstr {s : State} (q : s.Quiet) : SameFrame s s.startInstr := by
  have a := SameFrame.cpu s { s.cpu with imeBefore := s.cpu.ime, ime := s.cpu.ime || s.cpu.imePending, imePending := false }
  exact a.trans (sameFrame_fire (a.quiet q).1 _ _)

/-- The core after `n` operand fetches. -/
theorem fetchImms_core (s : State) (n : Nat) : (s.fetchImms n).2.core = { s.core with pc := s.cpu.pc + BitVec.ofNat 16 n } := by
  induction n generalizing s with
  | zero => simp [State.fetchImms]; rfl
  | succ n ih =>
    simp only [State.fetchImms, ih, fetchImm_core, pc_core s.fetchImm.2]
    show Cpu.mk _ _ _ _ _ _ _ _ _ _ _ _ _ _ _ _ _ _ = Cpu.mk _ _ _ _ _ _ _ _ _ _ _ _ _ _ _ _ _ _
    congr 1
    show s.cpu.pc + 1 + _ = _
    rw [BitVec.add_assoc]
    congr 1
    apply BitVec.eq_of_toNat_eq
    simp
    omega

/-- A core with the low register that an instruction's bytes write early (41_load16.md R142). -/
def Cpu.withLow (c : Cpu) : List Byte → Cpu
  | op :: lo :: _ =>
    match lowRegister op with
    | some r => c.setReg r lo
    | none => c
  | _ => c

theorem lowFirst_core (s : State) (op lo : Byte) : (s.lowFirst op lo).core = s.core.withLow [op, lo] := by
  simp only [State.lowFirst, Cpu.withLow]
  cases lowRegister op with
  | none => rfl
  | some r => cases r <;> rfl

theorem withLow_pc (c : Cpu) (bs : List Byte) (v : Addr) : Cpu.withLow { c with pc := v } bs = { c.withLow bs with pc := v } := by
  unfold Cpu.withLow Cpu.setReg
  split
  · split
    · split <;> rfl
    · rfl
  · rfl

/-- An early write changes at most C, E or L. -/
theorem withLow_other (c : Cpu) (bs : List Byte) : { c.withLow bs with c := c.c, e := c.e, l := c.l } = c := by
  unfold Cpu.withLow
  split
  · rename_i op lo _
    cases h : lowRegister op with
    | none => rfl
    | some r =>
      unfold lowRegister at h
      split at h
      · obtain rfl := Option.some.inj h; rfl
      · split at h
        · obtain rfl := Option.some.inj h; rfl
        · split at h
          · obtain rfl := Option.some.inj h; rfl
          · contradiction
  · rfl

/-- The core after the operand fetches of an instruction: PC behind them, and the low register that `LD rr,nn` writes early. -/
theorem fetchOperands_core (s : State) (op : Byte) (n : Nat) :
    (s.fetchOperands op n).2.core =
      { s.core.withLow (op :: (s.fetchOperands op n).1) with pc := s.cpu.pc + BitVec.ofNat 16 n } := by
  cases n with
  | zero => show s.core = { s.core with pc := s.cpu.pc + BitVec.ofNat 16 0 }; simp; rfl
  | succ n =>
    have f := fetchImm_core s
    have fp : s.fetchImm.2.cpu.pc = s.cpu.pc + 1 := congrArg Cpu.pc f
    show (((s.fetchImm.2.lowFirst op s.fetchImm.1).fetchImms n).2).core =
      { s.core.withLow [op, s.fetchImm.1] with pc := s.cpu.pc + BitVec.ofNat 16 (n + 1) }
    rw [fetchImms_core, lowFirst_core, lowFirst_pc, f, fp, withLow_pc]
    have : s.cpu.pc + 1 + BitVec.ofNat 16 n = s.cpu.pc + BitVec.ofNat 16 (n + 1) := by
      apply BitVec.eq_of_toNat_eq
      simp
      omega
    rw [this]

/-- The core after the fetches of an instruction, without the halt bug: PC is behind it, and `LD rr,nn` has its low register. -/
theorem fetchInstr_core (s : State) (h : s.cpu.haltBug = false) :
    s.fetchInstr.2.core = { s.core.withLow s.fetchInstr.1 with pc := s.cpu.pc + BitVec.ofNat 16 s.fetchInstr.1.length } := by
  have e : s.fetchOp.2.core = { s.core with pc := s.cpu.pc + 1 } := by rw [fetchOp_core, if_neg (by simp [h])]
  have ep : s.fetchOp.2.cpu.pc = s.cpu.pc + 1 := congrArg Cpu.pc e
  have l : s.fetchInstr.1.length = (instrLength s.fetchOp.1 - 1) + 1 := by simp [State.fetchInstr]
  rw [l]
  simp only [State.fetchInstr, fetchOperands_core, ep]
  rw [e, withLow_pc]
  have : s.cpu.pc + 1 + BitVec.ofNat 16 (instrLength s.fetchOp.1 - 1) = s.cpu.pc + BitVec.ofNat 16 (instrLength s.fetchOp.1 - 1 + 1) := by
    apply BitVec.eq_of_toNat_eq
    simp
    omega
  rw [this]

/-- What a row with two operand bytes decodes to. -/
theorem decode_f3 {op : Byte} {f : Addr → Instr} (hc : cellAt baseMap op = some (.f3 f)) {tl : List Byte} {i : Instr} {rest : List Byte}
    (h : decode (op :: tl) = .ok (i, rest)) : ∃ nn, i = f nn := by
  match tl with
  | [] | [_] => simp [decode, hc] at h
  | lo :: hi :: _ => simp only [decode, hc, Except.ok.injEq, Prod.mk.injEq] at h; exact ⟨_, h.1.symm⟩

/-- `LD rr,nn` writes the whole pair, so what stands in its low register makes no difference to its meaning. -/
theorem exec_setLow {op : Byte} {r : Reg8} (hr : lowRegister op = some r) {tl : List Byte} {i : Instr} {rest : List Byte}
    (h : decode (op :: tl) = .ok (i, rest)) (s : State) (v : Byte) : exec i (s.setReg r v) = exec i s := by
  unfold lowRegister at hr
  split at hr
  · subst_vars; obtain rfl := Option.some.inj hr
    obtain ⟨nn, rfl⟩ := decode_f3 (f := .ldBCImm16) rfl h; rfl
  · split at hr
    · subst_vars; obtain rfl := Option.some.inj hr
      obtain ⟨nn, rfl⟩ := decode_f3 (f := .ldDEImm16) rfl h; rfl
    · split at hr
      · subst_vars; obtain rfl := Option.some.inj hr
        obtain ⟨nn, rfl⟩ := decode_f3 (f := .ldHLImm16) rfl h; rfl
      · contradiction

/-- The meaning of the fetched instruction answers as from a state whose core differs from the one before the fetches by PC alone: the
low register that `LD rr,nn` writes early is written again. -/
theorem exec_fetched {s : State} (h : s.cpu.haltBug = false) {i : Instr} {rest : List Byte}
    (hd : decode s.fetchInstr.1 = .ok (i, rest)) :
    ∃ c : Cpu, exec i { s.fetchInstr.2 with cpu := c } = exec i s.fetchInstr.2 ∧
      { c with stallCount := 0 } = { s.core with pc := s.cpu.pc + BitVec.ofNat 16 s.fetchInstr.1.length } := by
  have hc := fetchInstr_core s h
  cases hr : lowRegister s.fetchOp.1 with
  | none =>
    refine ⟨s.fetchInstr.2.cpu, rfl, hc.trans ?_⟩
    have : s.core.withLow s.fetchInstr.1 = s.core := by
      unfold Cpu.withLow
      split
      · rename_i op lo _ e
        have : op = s.fetchOp.1 := (List.cons.inj e).1.symm
        rw [this, hr]
      · rfl
    rw [this]
  | some r =>
    refine ⟨s.fetchInstr.2.cpu.setReg r (s.cpu.reg r), exec_setLow hr hd s.fetchInstr.2 _, ?_⟩
    have e : { s.fetchInstr.2.cpu.setReg r (s.cpu.reg r) with stallCount := 0 } = s.fetchInstr.2.core.setReg r (s.core.reg r) := by
      cases r <;> rfl
    rw [e, hc]
    unfold Cpu.withLow
    split
    · rename_i op lo _ e
      have : op = s.fetchOp.1 := (List.cons.inj e).1.symm
      rw [this, hr]
      cases r <;> rfl
    · cases r <;> rfl

/-- The bytes an instruction's fetches give, where they lie in ROM, the boot ROM or plain RAM and the halt bug is not armed. -/
theorem fetchInstr_code {s : State} (q : s.Quiet) (hb : s.cpu.haltBug = false) {op : Byte} {tl : List Byte}
    (hl : tl.length + 1 = instrLength op) (h : s.codeBytes s.cpu.pc (tl.length + 1) = some (op :: tl)) :
    s.fetchInstr.1 = op :: tl := by
  unfold State.codeBytes at h
  split at h
  · rename_i v ws h1 h2
    have e := Option.some.inj h
    injection e with e1 e2
    subst e1 e2
    have f := sameFrame_fetchOp q
    have ho := fetchOp_code q h1
    have hp : s.fetchOp.2.cpu.pc = s.cpu.pc + 1 := by
      have := congrArg Cpu.pc (fetchOp_core s)
      rw [if_neg (by simp [hb])] at this
      exact this
    show s.fetchOp.1 :: (s.fetchOp.2.fetchOperands s.fetchOp.1 (instrLength s.fetchOp.1 - 1)).1 = _
    rw [ho, show instrLength v - 1 = ws.length by omega]
    rw [fetchOperands_code (f.quiet q) _ (vs := ws) (by rw [hp, codeBytes_same f]; exact h2)]
  · contradiction

end Sys2Proof.Machine
end

