-- ==== Sys2Proof/Laws/Dma.lean ====
section
/-! SUPPORT. What an M-cycle does to OAM DMA, OAM and WRAM: only the OAM DMA phase changes them (60_exceptions.md R228, R259), when the
host makes no calls from hooks and no VRAM DMA is in progress. -/

namespace Sys2Proof.Machine

/-- The host makes no calls from hooks, and no VRAM DMA is in progress. -/
def NoVramDma (s : State) : Prop := s.host.replies = [] ∧ s.hdma.active = false ∧ s.hdma.pending = 0

/-- OAM DMA, OAM and what a transfer from WRAM reads are kept. -/
structure SameDma (s t : State) : Prop where
  oamDma : t.oamDma = s.oamDma
  oam : t.oam = s.oam
  wram : t.wram = s.wram
  model : t.model = s.model
  svbk : t.svbk = s.svbk
  quiet : NoVramDma s → NoVramDma t

theorem SameDma.refl (s : State) : SameDma s s := ⟨rfl, rfl, rfl, rfl, rfl, id⟩
theorem SameDma.trans {s t u : State} (h : SameDma s t) (k : SameDma t u) : SameDma s u :=
  ⟨k.1.trans h.1, k.2.trans h.2, k.3.trans h.3, k.4.trans h.4, k.5.trans h.5, k.6 ∘ h.6⟩

theorem dma_fire {s : State} (h : NoVramDma s) (b : Bool) (c : HookCall) : SameDma s (s.fire b c) := by
  unfold State.fire; split
  · unfold State.callHook; rw [h.1]; exact ⟨rfl, rfl, rfl, rfl, rfl, id⟩
  · exact .refl s

theorem dma_linePhase {s : State} (h : NoVramDma s) : SameDma s s.linePhase := by
  unfold State.linePhase; split
  · split
    · unfold State.startLine; dsimp only; split
      · exact (dma_fire h _ _).trans ⟨rfl, rfl, rfl, rfl, rfl, id⟩
      · exact dma_fire h _ _
    · exact .refl s
  · split
    · exact ⟨rfl, rfl, rfl, rfl, rfl, id⟩
    · exact .refl s

theorem dma_baseTick {s : State} (h : NoVramDma s) : SameDma s s.baseTick := by
  have rtc : ∀ t : State, SameDma t t.rtcPhase := by
    intro t; unfold State.rtcPhase; split
    · exact ⟨rfl, rfl, rfl, rfl, rfl, id⟩
    · exact .refl t
  have sample : ∀ t : State, SameDma t t.samplePhase := by
    intro t; unfold State.samplePhase; split
    · exact ⟨rfl, rfl, rfl, rfl, rfl, id⟩
    · exact .refl t
  have stat : ∀ t : State, SameDma t t.statPhase := fun _ => ⟨rfl, rfl, rfl, rfl, rfl, id⟩
  have adv : ∀ t : State, SameDma t t.advanceLine := fun _ => ⟨rfl, rfl, rfl, rfl, rfl, id⟩
  have cnt : ∀ t : State, SameDma t t.countTick := fun _ => ⟨rfl, rfl, rfl, rfl, rfl, id⟩
  have a := (dma_linePhase h).trans (stat _)
  have hb : s.linePhase.statPhase.hblankPhase = s.linePhase.statPhase := by
    have k : s.linePhase.statPhase.hdma.active = false := (a.quiet h).2.1
    unfold State.hblankPhase; rw [k]; rfl
  have b : SameDma s s.linePhase.statPhase.hblankPhase := by rw [hb]; exact a
  exact ((b.trans (adv _)).trans (rtc _)).trans ((sample _).trans (cnt _))

theorem dma_basePhase {s : State} (h : NoVramDma s) : SameDma s s.basePhase := by
  have a := dma_baseTick h
  have b := a.trans (dma_baseTick (a.quiet h))
  have c := b.trans (dma_baseTick (b.quiet h))
  have d := c.trans (dma_baseTick (c.quiet h))
  unfold State.basePhase; split
  · exact b
  · exact d

/-- Without a general-purpose transfer nothing is moved at the end of an M-cycle. -/
theorem hdmaGeneral_none {s : State} (h : NoVramDma s) : s.hdmaGeneral = s := by
  unfold State.hdmaGeneral; rw [h.2.2]
  show { s with hdma := { s.hdma with pending := 0 } } = s
  have : { s.hdma with pending := 0 } = s.hdma := by rw [← h.2.2]
  rw [this]

/-- An M-cycle changes OAM DMA, OAM and WRAM only by its OAM DMA phase. -/
theorem dma_internal {s : State} (q : NoVramDma (s.timerPhase true).oamDmaPhase) :
    SameDma (s.timerPhase true).oamDmaPhase s.internal := by
  have a : SameDma (s.timerPhase true).oamDmaPhase (s.timerPhase true).oamDmaPhase.advanceSerial := ⟨rfl, rfl, rfl, rfl, rfl, id⟩
  have b := a.trans (dma_fire (a.quiet q)
    ((s.timerPhase true).oamDmaPhase.serial.completes (s.timerPhase true).oamDmaPhase.host.peer &&
      (s.timerPhase true).oamDmaPhase.host.hooks.linkByte) .linkByte)
  have c := b.trans (dma_basePhase (b.quiet q))
  have d : SameDma (s.timerPhase true).oamDmaPhase (s.timerPhase true).oamDmaPhase.serialPhase.basePhase.countCycle :=
    c.trans ⟨rfl, rfl, rfl, rfl, rfl, id⟩
  have e : s.internal = (s.timerPhase true).oamDmaPhase.serialPhase.basePhase.countCycle := hdmaGeneral_none (d.quiet q)
  rw [e]
  exact d


end Sys2Proof.Machine
end

