-- ==== Sys2Proof/Laws/Exec.lean ====
section
/-! SUPPORT. The meaning of each family of instructions as one equation over its operand codes. -/

namespace Sys2Proof.Machine

theorem exec_ldReg (dst src : Reg8) (s : State) : exec (.ldReg dst src) s = .next (s.loadReg dst src) := by
  cases dst <;> cases src <;> rfl

theorem exec_ldImm (dst : Reg8) (n : Byte) (s : State) : exec (.ldImm dst n) s = .next (s.loadImm dst n) := by
  cases dst <;> rfl

theorem exec_ldFromHL (dst : Reg8) (s : State) : exec (.ldFromHL dst) s = .next (s.loadFrom dst s.hl) := by
  cases dst <;> rfl

theorem exec_ldToHL (r : Reg8) (s : State) : exec (.ldToHL r) s = .next (s.storeAt s.hl (s.reg r)) := by
  cases r <;> rfl

theorem exec_ldPair (p : Pair) (nn : Addr) (s : State) : exec (.ldPair p nn) s = .next (s.loadPair p nn) := by
  cases p <;> rfl

theorem exec_push (q : StackPair) (s : State) : exec (.push q) s = .next (s.pushPair q) := by cases q <;> rfl

theorem exec_pop (q : StackPair) (s : State) : exec (.pop q) s = .next (s.popPair q) := by cases q <;> rfl

theorem exec_alu (op : AluOp) (o : Operand8) (s : State) : exec (.alu op o) s = .next (s.accumulateFrom op o) := by
  cases op <;> cases o <;> first | rfl | (rename_i r; cases r <;> rfl)

theorem exec_aluImm (op : AluOp) (n : Byte) (s : State) : exec (.aluImm op n) s = .next (s.accumulate op n) := by
  cases op <;> rfl

theorem exec_inc (o : Operand8) (s : State) : exec (.inc o) s = .next (s.inc8 o) := by
  cases o <;> first | rfl | (rename_i r; cases r <;> rfl)

theorem exec_dec (o : Operand8) (s : State) : exec (.dec o) s = .next (s.dec8 o) := by
  cases o <;> first | rfl | (rename_i r; cases r <;> rfl)

theorem exec_addHL (p : Pair) (s : State) : exec (.addHL p) s = .next (s.addHl p) := by cases p <;> rfl

theorem exec_incPair (p : Pair) (s : State) : exec (.incPair p) s = .next (s.incPair p) := by cases p <;> rfl

theorem exec_decPair (p : Pair) (s : State) : exec (.decPair p) s = .next (s.decPair p) := by cases p <;> rfl

theorem exec_shift (op : ShiftOp) (o : Operand8) (s : State) : exec (.shift op o) s = .next (s.shift op o) := by
  cases op <;> cases o <;> first | rfl | (rename_i r; cases r <;> rfl)

theorem exec_bit (b : Index3) (o : Operand8) (s : State) : exec (.bit b o) s = .next (s.testBit (index3 b) o) := by
  cases b <;> cases o <;> first | rfl | (rename_i r; cases r <;> rfl)

theorem exec_res (b : Index3) (o : Operand8) (s : State) : exec (.res b o) s = .next (s.clearBit (index3 b) o) := by
  cases b <;> cases o <;> first | rfl | (rename_i r; cases r <;> rfl)

theorem exec_set (b : Index3) (o : Operand8) (s : State) : exec (.set b o) s = .next (s.raiseBit (index3 b) o) := by
  cases b <;> cases o <;> first | rfl | (rename_i r; cases r <;> rfl)

theorem exec_jpCond (cc : Cond) (nn : Addr) (s : State) :
    exec (.jpCond cc nn) s = .next (if s.cond cc then s.jump nn else s) := by cases cc <;> rfl

theorem exec_jrCond (cc : Cond) (e : Byte) (s : State) :
    exec (.jrCond cc e) s = .next (if s.cond cc then s.jumpBy e else s) := by cases cc <;> rfl

theorem exec_callCond (cc : Cond) (nn : Addr) (s : State) :
    exec (.callCond cc nn) s = .next (if s.cond cc then s.call nn else s) := by cases cc <;> rfl

theorem exec_retCond (cc : Cond) (s : State) : exec (.retCond cc) s = .next (s.retCond cc) := by cases cc <;> rfl

theorem exec_rst (t : Index3) (s : State) : exec (.rst t) s = .next (s.call (rstVector t)) := by cases t <;> rfl

theorem exec_illegal (k : IllegalOp) (s : State) : exec (.illegal k) s = .next s.lockUp := by cases k <;> rfl

end Sys2Proof.Machine
end

