-- ==== Sys2Proof/Laws/Families.lean ====
section
/-! SUPPORT. Every instruction is a member of one of the families of Syntax.lean or stands alone: case analysis over the families. -/

namespace Sys2Proof.Laws

/-- What holds for every family and for every instruction that stands alone holds for every instruction. -/
theorem instr_cases {P : Instr → Prop}
    (ldReg_ : ∀ (dst : Reg8) (src : Reg8), P (Instr.ldReg dst src))
    (ldImm_ : ∀ (dst : Reg8) (n : Byte), P (Instr.ldImm dst n))
    (ldFromHL_ : ∀ (dst : Reg8), P (Instr.ldFromHL dst))
    (ldToHL_ : ∀ (r : Reg8), P (Instr.ldToHL r))
    (ldPair_ : ∀ (p : Pair) (nn : Addr), P (Instr.ldPair p nn))
    (push_ : ∀ (q : StackPair), P (Instr.push q))
    (pop_ : ∀ (q : StackPair), P (Instr.pop q))
    (alu_ : ∀ (op : AluOp) (v : Operand8), P (Instr.alu op v))
    (aluImm_ : ∀ (op : AluOp) (n : Byte), P (Instr.aluImm op n))
    (inc_ : ∀ (v : Operand8), P (Instr.inc v))
    (dec_ : ∀ (v : Operand8), P (Instr.dec v))
    (addHL_ : ∀ (p : Pair), P (Instr.addHL p))
    (incPair_ : ∀ (p : Pair), P (Instr.incPair p))
    (decPair_ : ∀ (p : Pair), P (Instr.decPair p))
    (shift_ : ∀ (op : ShiftOp) (v : Operand8), P (Instr.shift op v))
    (bit_ : ∀ (b : Index3) (v : Operand8), P (Instr.bit b v))
    (res_ : ∀ (b : Index3) (v : Operand8), P (Instr.res b v))
    (set_ : ∀ (b : Index3) (v : Operand8), P (Instr.set b v))
    (jpCond_ : ∀ (cc : Cond) (nn : Addr), P (Instr.jpCond cc nn))
    (jrCond_ : ∀ (cc : Cond) (e : Byte), P (Instr.jrCond cc e))
    (callCond_ : ∀ (cc : Cond) (nn : Addr), P (Instr.callCond cc nn))
    (retCond_ : ∀ (cc : Cond), P (Instr.retCond cc))
    (rst_ : ∀ (t : Index3), P (Instr.rst t))
    (illegal_ : ∀ (k : IllegalOp), P (Instr.illegal k))
    (ldAtImm16SP_ : ∀ (nn : Addr), P (Instr.ldAtImm16SP nn))
    (stop_ : ∀ (n : Byte), P (Instr.stop n))
    (jrDisp_ : ∀ (e : Byte), P (Instr.jrDisp e))
    (ldAtHLImm_ : ∀ (n : Byte), P (Instr.ldAtHLImm n))
    (jpImm16_ : ∀ (nn : Addr), P (Instr.jpImm16 nn))
    (callImm16_ : ∀ (nn : Addr), P (Instr.callImm16 nn))
    (ldhAtImmA_ : ∀ (n : Byte), P (Instr.ldhAtImmA n))
    (addSPDisp_ : ∀ (e : Byte), P (Instr.addSPDisp e))
    (ldAtImm16A_ : ∀ (nn : Addr), P (Instr.ldAtImm16A nn))
    (ldhAAtImm_ : ∀ (n : Byte), P (Instr.ldhAAtImm n))
    (ldHLSPDisp_ : ∀ (e : Byte), P (Instr.ldHLSPDisp e))
    (ldAAtImm16_ : ∀ (nn : Addr), P (Instr.ldAAtImm16 nn))
    (nop_ : P Instr.nop)
    (ldAtBCA_ : P Instr.ldAtBCA)
    (rlca_ : P Instr.rlca)
    (ldAAtBC_ : P Instr.ldAAtBC)
    (rrca_ : P Instr.rrca)
    (ldAtDEA_ : P Instr.ldAtDEA)
    (rla_ : P Instr.rla)
    (ldAAtDE_ : P Instr.ldAAtDE)
    (rra_ : P Instr.rra)
    (ldAtHLIncA_ : P Instr.ldAtHLIncA)
    (daa_ : P Instr.daa)
    (ldAAtHLInc_ : P Instr.ldAAtHLInc)
    (cpl_ : P Instr.cpl)
    (ldAtHLDecA_ : P Instr.ldAtHLDecA)
    (scf_ : P Instr.scf)
    (ldAAtHLDec_ : P Instr.ldAAtHLDec)
    (ccf_ : P Instr.ccf)
    (halt_ : P Instr.halt)
    (ret_ : P Instr.ret)
    (reti_ : P Instr.reti)
    (ldAtCA_ : P Instr.ldAtCA)
    (jpHL_ : P Instr.jpHL)
    (ldAAtC_ : P Instr.ldAAtC)
    (di_ : P Instr.di)
    (ldSPHL_ : P Instr.ldSPHL)
    (ei_ : P Instr.ei) : ∀ i, P i := by
  intro i
  cases i with
  | ldBCImm16 nn => exact ldPair_ .bc nn
  | ldBImm n => exact ldImm_ .b n
  | ldAtImm16SP nn => exact ldAtImm16SP_ nn
  | ldCImm n => exact ldImm_ .c n
  | stop n => exact stop_ n
  | ldDEImm16 nn => exact ldPair_ .de nn
  | ldDImm n => exact ldImm_ .d n
  | jrDisp e => exact jrDisp_ e
  | ldEImm n => exact ldImm_ .e n
  | jrNZDisp e => exact jrCond_ .nz e
  | ldHLImm16 nn => exact ldPair_ .hl nn
  | ldHImm n => exact ldImm_ .h n
  | jrZDisp e => exact jrCond_ .z e
  | ldLImm n => exact ldImm_ .l n
  | jrNCDisp e => exact jrCond_ .nc e
  | ldSPImm16 nn => exact ldPair_ .sp nn
  | ldAtHLImm n => exact ldAtHLImm_ n
  | jrCDisp e => exact jrCond_ .c e
  | ldAImm n => exact ldImm_ .a n
  | jpNZImm16 nn => exact jpCond_ .nz nn
  | jpImm16 nn => exact jpImm16_ nn
  | callNZImm16 nn => exact callCond_ .nz nn
  | addAImm n => exact aluImm_ .add n
  | jpZImm16 nn => exact jpCond_ .z nn
  | callZImm16 nn => exact callCond_ .z nn
  | callImm16 nn => exact callImm16_ nn
  | adcAImm n => exact aluImm_ .adc n
  | jpNCImm16 nn => exact jpCond_ .nc nn
  | callNCImm16 nn => exact callCond_ .nc nn
  | subImm n => exact aluImm_ .sub n
  | jpCImm16 nn => exact jpCond_ .c nn
  | callCImm16 nn => exact callCond_ .c nn
  | sbcAImm n => exact aluImm_ .sbc n
  | ldhAtImmA n => exact ldhAtImmA_ n
  | andImm n => exact aluImm_ .and n
  | addSPDisp e => exact addSPDisp_ e
  | ldAtImm16A nn => exact ldAtImm16A_ nn
  | xorImm n => exact aluImm_ .xor n
  | ldhAAtImm n => exact ldhAAtImm_ n
  | orImm n => exact aluImm_ .or n
  | ldHLSPDisp e => exact ldHLSPDisp_ e
  | ldAAtImm16 nn => exact ldAAtImm16_ nn
  | cpImm n => exact aluImm_ .cp n
  | nop => exact nop_
  | ldAtBCA => exact ldAtBCA_
  | incBC => exact incPair_ .bc
  | incB => exact inc_ (.reg .b)
  | decB => exact dec_ (.reg .b)
  | rlca => exact rlca_
  | addHLBC => exact addHL_ .bc
  | ldAAtBC => exact ldAAtBC_
  | decBC => exact decPair_ .bc
  | incC => exact inc_ (.reg .c)
  | decC => exact dec_ (.reg .c)
  | rrca => exact rrca_
  | ldAtDEA => exact ldAtDEA_
  | incDE => exact incPair_ .de
  | incD => exact inc_ (.reg .d)
  | decD => exact dec_ (.reg .d)
  | rla => exact rla_
  | addHLDE => exact addHL_ .de
  | ldAAtDE => exact ldAAtDE_
  | decDE => exact decPair_ .de
  | incE => exact inc_ (.reg .e)
  | decE => exact dec_ (.reg .e)
  | rra => exact rra_
  | ldAtHLIncA => exact ldAtHLIncA_
  | incHL => exact incPair_ .hl
  | incH => exact inc_ (.reg .h)
  | decH => exact dec_ (.reg .h)
  | daa => exact daa_
  | addHLHL => exact addHL_ .hl
  | ldAAtHLInc => exact ldAAtHLInc_
  | decHL => exact decPair_ .hl
  | incL => exact inc_ (.reg .l)
  | decL => exact dec_ (.reg .l)
  | cpl => exact cpl_
  | ldAtHLDecA => exact ldAtHLDecA_
  | incSP => exact incPair_ .sp
  | incAtHL => exact inc_ .atHL
  | decAtHL => exact dec_ .atHL
  | scf => exact scf_
  | addHLSP => exact addHL_ .sp
  | ldAAtHLDec => exact ldAAtHLDec_
  | decSP => exact decPair_ .sp
  | incA => exact inc_ (.reg .a)
  | decA => exact dec_ (.reg .a)
  | ccf => exact ccf_
  | ldBB => exact ldReg_ .b .b
  | ldBC => exact ldReg_ .b .c
  | ldBD => exact ldReg_ .b .d
  | ldBE => exact ldReg_ .b .e
  | ldBH => exact ldReg_ .b .h
  | ldBL => exact ldReg_ .b .l
  | ldBAtHL => exact ldFromHL_ .b
  | ldBA => exact ldReg_ .b .a
  | ldCB => exact ldReg_ .c .b
  | ldCC => exact ldReg_ .c .c
  | ldCD => exact ldReg_ .c .d
  | ldCE => exact ldReg_ .c .e
  | ldCH => exact ldReg_ .c .h
  | ldCL => exact ldReg_ .c .l
  | ldCAtHL => exact ldFromHL_ .c
  | ldCA => exact ldReg_ .c .a
  | ldDB => exact ldReg_ .d .b
  | ldDC => exact ldReg_ .d .c
  | ldDD => exact ldReg_ .d .d
  | ldDE => exact ldReg_ .d .e
  | ldDH => exact ldReg_ .d .h
  | ldDL => exact ldReg_ .d .l
  | ldDAtHL => exact ldFromHL_ .d
  | ldDA => exact ldReg_ .d .a
  | ldEB => exact ldReg_ .e .b
  | ldEC => exact ldReg_ .e .c
  | ldED => exact ldReg_ .e .d
  | ldEE => exact ldReg_ .e .e
  | ldEH => exact ldReg_ .e .h
  | ldEL => exact ldReg_ .e .l
  | ldEAtHL => exact ldFromHL_ .e
  | ldEA => exact ldReg_ .e .a
  | ldHB => exact ldReg_ .h .b
  | ldHC => exact ldReg_ .h .c
  | ldHD => exact ldReg_ .h .d
  | ldHE => exact ldReg_ .h .e
  | ldHH => exact ldReg_ .h .h
  | ldHL => exact ldReg_ .h .l
  | ldHAtHL => exact ldFromHL_ .h
  | ldHA => exact ldReg_ .h .a
  | ldLB => exact ldReg_ .l .b
  | ldLC => exact ldReg_ .l .c
  | ldLD => exact ldReg_ .l .d
  | ldLE => exact ldReg_ .l .e
  | ldLH => exact ldReg_ .l .h
  | ldLL => exact ldReg_ .l .l
  | ldLAtHL => exact ldFromHL_ .l
  | ldLA => exact ldReg_ .l .a
  | ldAtHLB => exact ldToHL_ .b
  | ldAtHLC => exact ldToHL_ .c
  | ldAtHLD => exact ldToHL_ .d
  | ldAtHLE => exact ldToHL_ .e
  | ldAtHLH => exact ldToHL_ .h
  | ldAtHLL => exact ldToHL_ .l
  | halt => exact halt_
  | ldAtHLA => exact ldToHL_ .a
  | ldAB => exact ldReg_ .a .b
  | ldAC => exact ldReg_ .a .c
  | ldAD => exact ldReg_ .a .d
  | ldAE => exact ldReg_ .a .e
  | ldAH => exact ldReg_ .a .h
  | ldAL => exact ldReg_ .a .l
  | ldAAtHL => exact ldFromHL_ .a
  | ldAA => exact ldReg_ .a .a
  | addAB => exact alu_ .add (.reg .b)
  | addAC => exact alu_ .add (.reg .c)
  | addAD => exact alu_ .add (.reg .d)
  | addAE => exact alu_ .add (.reg .e)
  | addAH => exact alu_ .add (.reg .h)
  | addAL => exact alu_ .add (.reg .l)
  | addAAtHL => exact alu_ .add .atHL
  | addAA => exact alu_ .add (.reg .a)
  | adcAB => exact alu_ .adc (.reg .b)
  | adcAC => exact alu_ .adc (.reg .c)
  | adcAD => exact alu_ .adc (.reg .d)
  | adcAE => exact alu_ .adc (.reg .e)
  | adcAH => exact alu_ .adc (.reg .h)
  | adcAL => exact alu_ .adc (.reg .l)
  | adcAAtHL => exact alu_ .adc .atHL
  | adcAA => exact alu_ .adc (.reg .a)
  | subB => exact alu_ .sub (.reg .b)
  | subC => exact alu_ .sub (.reg .c)
  | subD => exact alu_ .sub (.reg .d)
  | subE => exact alu_ .sub (.reg .e)
  | subH => exact alu_ .sub (.reg .h)
  | subL => exact alu_ .sub (.reg .l)
  | subAtHL => exact alu_ .sub .atHL
  | subA => exact alu_ .sub (.reg .a)
  | sbcAB => exact alu_ .sbc (.reg .b)
  | sbcAC => exact alu_ .sbc (.reg .c)
  | sbcAD => exact alu_ .sbc (.reg .d)
  | sbcAE => exact alu_ .sbc (.reg .e)
  | sbcAH => exact alu_ .sbc (.reg .h)
  | sbcAL => exact alu_ .sbc (.reg .l)
  | sbcAAtHL => exact alu_ .sbc .atHL
  | sbcAA => exact alu_ .sbc (.reg .a)
  | andB => exact alu_ .and (.reg .b)
  | andC => exact alu_ .and (.reg .c)
  | andD => exact alu_ .and (.reg .d)
  | andE => exact alu_ .and (.reg .e)
  | andH => exact alu_ .and (.reg .h)
  | andL => exact alu_ .and (.reg .l)
  | andAtHL => exact alu_ .and .atHL
  | andA => exact alu_ .and (.reg .a)
  | xorB => exact alu_ .xor (.reg .b)
  | xorC => exact alu_ .xor (.reg .c)
  | xorD => exact alu_ .xor (.reg .d)
  | xorE => exact alu_ .xor (.reg .e)
  | xorH => exact alu_ .xor (.reg .h)
  | xorL => exact alu_ .xor (.reg .l)
  | xorAtHL => exact alu_ .xor .atHL
  | xorA => exact alu_ .xor (.reg .a)
  | orB => exact alu_ .or (.reg .b)
  | orC => exact alu_ .or (.reg .c)
  | orD => exact alu_ .or (.reg .d)
  | orE => exact alu_ .or (.reg .e)
  | orH => exact alu_ .or (.reg .h)
  | orL => exact alu_ .or (.reg .l)
  | orAtHL => exact alu_ .or .atHL
  | orA => exact alu_ .or (.reg .a)
  | cpB => exact alu_ .cp (.reg .b)
  | cpC => exact alu_ .cp (.reg .c)
  | cpD => exact alu_ .cp (.reg .d)
  | cpE => exact alu_ .cp (.reg .e)
  | cpH => exact alu_ .cp (.reg .h)
  | cpL => exact alu_ .cp (.reg .l)
  | cpAtHL => exact alu_ .cp .atHL
  | cpA => exact alu_ .cp (.reg .a)
  | retNZ => exact retCond_ .nz
  | popBC => exact pop_ .bc
  | pushBC => exact push_ .bc
  | rst00 => exact rst_ .i0
  | retZ => exact retCond_ .z
  | ret => exact ret_
  | rst08 => exact rst_ .i1
  | retNC => exact retCond_ .nc
  | popDE => exact pop_ .de
  | illegalD3 => exact illegal_ .opD3
  | pushDE => exact push_ .de
  | rst10 => exact rst_ .i2
  | retC => exact retCond_ .c
  | reti => exact reti_
  | illegalDB => exact illegal_ .opDB
  | illegalDD => exact illegal_ .opDD
  | rst18 => exact rst_ .i3
  | popHL => exact pop_ .hl
  | ldAtCA => exact ldAtCA_
  | illegalE3 => exact illegal_ .opE3
  | illegalE4 => exact illegal_ .opE4
  | pushHL => exact push_ .hl
  | rst20 => exact rst_ .i4
  | jpHL => exact jpHL_
  | illegalEB => exact illegal_ .opEB
  | illegalEC => exact illegal_ .opEC
  | illegalED => exact illegal_ .opED
  | rst28 => exact rst_ .i5
  | popAF => exact pop_ .af
  | ldAAtC => exact ldAAtC_
  | di => exact di_
  | illegalF4 => exact illegal_ .opF4
  | pushAF => exact push_ .af
  | rst30 => exact rst_ .i6
  | ldSPHL => exact ldSPHL_
  | ei => exact ei_
  | illegalFC => exact illegal_ .opFC
  | illegalFD => exact illegal_ .opFD
  | rst38 => exact rst_ .i7
  | rlcB => exact shift_ .rlc (.reg .b)
  | rlcC => exact shift_ .rlc (.reg .c)
  | rlcD => exact shift_ .rlc (.reg .d)
  | rlcE => exact shift_ .rlc (.reg .e)
  | rlcH => exact shift_ .rlc (.reg .h)
  | rlcL => exact shift_ .rlc (.reg .l)
  | rlcAtHL => exact shift_ .rlc .atHL
  | rlcA => exact shift_ .rlc (.reg .a)
  | rrcB => exact shift_ .rrc (.reg .b)
  | rrcC => exact shift_ .rrc (.reg .c)
  | rrcD => exact shift_ .rrc (.reg .d)
  | rrcE => exact shift_ .rrc (.reg .e)
  | rrcH => exact shift_ .rrc (.reg .h)
  | rrcL => exact shift_ .rrc (.reg .l)
  | rrcAtHL => exact shift_ .rrc .atHL
  | rrcA => exact shift_ .rrc (.reg .a)
  | rlB => exact shift_ .rl (.reg .b)
  | rlC => exact shift_ .rl (.reg .c)
  | rlD => exact shift_ .rl (.reg .d)
  | rlE => exact shift_ .rl (.reg .e)
  | rlH => exact shift_ .rl (.reg .h)
  | rlL => exact shift_ .rl (.reg .l)
  | rlAtHL => exact shift_ .rl .atHL
  | rlA => exact shift_ .rl (.reg .a)
  | rrB => exact shift_ .rr (.reg .b)
  | rrC => exact shift_ .rr (.reg .c)
  | rrD => exact shift_ .rr (.reg .d)
  | rrE => exact shift_ .rr (.reg .e)
  | rrH => exact shift_ .rr (.reg .h)
  | rrL => exact shift_ .rr (.reg .l)
  | rrAtHL => exact shift_ .rr .atHL
  | rrA => exact shift_ .rr (.reg .a)
  | slaB => exact shift_ .sla (.reg .b)
  | slaC => exact shift_ .sla (.reg .c)
  | slaD => exact shift_ .sla (.reg .d)
  | slaE => exact shift_ .sla (.reg .e)
  | slaH => exact shift_ .sla (.reg .h)
  | slaL => exact shift_ .sla (.reg .l)
  | slaAtHL => exact shift_ .sla .atHL
  | slaA => exact shift_ .sla (.reg .a)
  | sraB => exact shift_ .sra (.reg .b)
  | sraC => exact shift_ .sra (.reg .c)
  | sraD => exact shift_ .sra (.reg .d)
  | sraE => exact shift_ .sra (.reg .e)
  | sraH => exact shift_ .sra (.reg .h)
  | sraL => exact shift_ .sra (.reg .l)
  | sraAtHL => exact shift_ .sra .atHL
  | sraA => exact shift_ .sra (.reg .a)
  | swapB => exact shift_ .swap (.reg .b)
  | swapC => exact shift_ .swap (.reg .c)
  | swapD => exact shift_ .swap (.reg .d)
  | swapE => exact shift_ .swap (.reg .e)
  | swapH => exact shift_ .swap (.reg .h)
  | swapL => exact shift_ .swap (.reg .l)
  | swapAtHL => exact shift_ .swap .atHL
  | swapA => exact shift_ .swap (.reg .a)
  | srlB => exact shift_ .srl (.reg .b)
  | srlC => exact shift_ .srl (.reg .c)
  | srlD => exact shift_ .srl (.reg .d)
  | srlE => exact shift_ .srl (.reg .e)
  | srlH => exact shift_ .srl (.reg .h)
  | srlL => exact shift_ .srl (.reg .l)
  | srlAtHL => exact shift_ .srl .atHL
  | srlA => exact shift_ .srl (.reg .a)
  | bit0B => exact bit_ .i0 (.reg .b)
  | bit0C => exact bit_ .i0 (.reg .c)
  | bit0D => exact bit_ .i0 (.reg .d)
  | bit0E => exact bit_ .i0 (.reg .e)
  | bit0H => exact bit_ .i0 (.reg .h)
  | bit0L => exact bit_ .i0 (.reg .l)
  | bit0AtHL => exact bit_ .i0 .atHL
  | bit0A => exact bit_ .i0 (.reg .a)
  | bit1B => exact bit_ .i1 (.reg .b)
  | bit1C => exact bit_ .i1 (.reg .c)
  | bit1D => exact bit_ .i1 (.reg .d)
  | bit1E => exact bit_ .i1 (.reg .e)
  | bit1H => exact bit_ .i1 (.reg .h)
  | bit1L => exact bit_ .i1 (.reg .l)
  | bit1AtHL => exact bit_ .i1 .atHL
  | bit1A => exact bit_ .i1 (.reg .a)
  | bit2B => exact bit_ .i2 (.reg .b)
  | bit2C => exact bit_ .i2 (.reg .c)
  | bit2D => exact bit_ .i2 (.reg .d)
  | bit2E => exact bit_ .i2 (.reg .e)
  | bit2H => exact bit_ .i2 (.reg .h)
  | bit2L => exact bit_ .i2 (.reg .l)
  | bit2AtHL => exact bit_ .i2 .atHL
  | bit2A => exact bit_ .i2 (.reg .a)
  | bit3B => exact bit_ .i3 (.reg .b)
  | bit3C => exact bit_ .i3 (.reg .c)
  | bit3D => exact bit_ .i3 (.reg .d)
  | bit3E => exact bit_ .i3 (.reg .e)
  | bit3H => exact bit_ .i3 (.reg .h)
  | bit3L => exact bit_ .i3 (.reg .l)
  | bit3AtHL => exact bit_ .i3 .atHL
  | bit3A => exact bit_ .i3 (.reg .a)
  | bit4B => exact bit_ .i4 (.reg .b)
  | bit4C => exact bit_ .i4 (.reg .c)
  | bit4D => exact bit_ .i4 (.reg .d)
  | bit4E => exact bit_ .i4 (.reg .e)
  | bit4H => exact bit_ .i4 (.reg .h)
  | bit4L => exact bit_ .i4 (.reg .l)
  | bit4AtHL => exact bit_ .i4 .atHL
  | bit4A => exact bit_ .i4 (.reg .a)
  | bit5B => exact bit_ .i5 (.reg .b)
  | bit5C => exact bit_ .i5 (.reg .c)
  | bit5D => exact bit_ .i5 (.reg .d)
  | bit5E => exact bit_ .i5 (.reg .e)
  | bit5H => exact bit_ .i5 (.reg .h)
  | bit5L => exact bit_ .i5 (.reg .l)
  | bit5AtHL => exact bit_ .i5 .atHL
  | bit5A => exact bit_ .i5 (.reg .a)
  | bit6B => exact bit_ .i6 (.reg .b)
  | bit6C => exact bit_ .i6 (.reg .c)
  | bit6D => exact bit_ .i6 (.reg .d)
  | bit6E => exact bit_ .i6 (.reg .e)
  | bit6H => exact bit_ .i6 (.reg .h)
  | bit6L => exact bit_ .i6 (.reg .l)
  | bit6AtHL => exact bit_ .i6 .atHL
  | bit6A => exact bit_ .i6 (.reg .a)
  | bit7B => exact bit_ .i7 (.reg .b)
  | bit7C => exact bit_ .i7 (.reg .c)
  | bit7D => exact bit_ .i7 (.reg .d)
  | bit7E => exact bit_ .i7 (.reg .e)
  | bit7H => exact bit_ .i7 (.reg .h)
  | bit7L => exact bit_ .i7 (.reg .l)
  | bit7AtHL => exact bit_ .i7 .atHL
  | bit7A => exact bit_ .i7 (.reg .a)
  | res0B => exact res_ .i0 (.reg .b)
  | res0C => exact res_ .i0 (.reg .c)
  | res0D => exact res_ .i0 (.reg .d)
  | res0E => exact res_ .i0 (.reg .e)
  | res0H => exact res_ .i0 (.reg .h)
  | res0L => exact res_ .i0 (.reg .l)
  | res0AtHL => exact res_ .i0 .atHL
  | res0A => exact res_ .i0 (.reg .a)
  | res1B => exact res_ .i1 (.reg .b)
  | res1C => exact res_ .i1 (.reg .c)
  | res1D => exact res_ .i1 (.reg .d)
  | res1E => exact res_ .i1 (.reg .e)
  | res1H => exact res_ .i1 (.reg .h)
  | res1L => exact res_ .i1 (.reg .l)
  | res1AtHL => exact res_ .i1 .atHL
  | res1A => exact res_ .i1 (.reg .a)
  | res2B => exact res_ .i2 (.reg .b)
  | res2C => exact res_ .i2 (.reg .c)
  | res2D => exact res_ .i2 (.reg .d)
  | res2E => exact res_ .i2 (.reg .e)
  | res2H => exact res_ .i2 (.reg .h)
  | res2L => exact res_ .i2 (.reg .l)
  | res2AtHL => exact res_ .i2 .atHL
  | res2A => exact res_ .i2 (.reg .a)
  | res3B => exact res_ .i3 (.reg .b)
  | res3C => exact res_ .i3 (.reg .c)
  | res3D => exact res_ .i3 (.reg .d)
  | res3E => exact res_ .i3 (.reg .e)
  | res3H => exact res_ .i3 (.reg .h)
  | res3L => exact res_ .i3 (.reg .l)
  | res3AtHL => exact res_ .i3 .atHL
  | res3A => exact res_ .i3 (.reg .a)
  | res4B => exact res_ .i4 (.reg .b)
  | res4C => exact res_ .i4 (.reg .c)
  | res4D => exact res_ .i4 (.reg .d)
  | res4E => exact res_ .i4 (.reg .e)
  | res4H => exact res_ .i4 (.reg .h)
  | res4L => exact res_ .i4 (.reg .l)
  | res4AtHL => exact res_ .i4 .atHL
  | res4A => exact res_ .i4 (.reg .a)
  | res5B => exact res_ .i5 (.reg .b)
  | res5C => exact res_ .i5 (.reg .c)
  | res5D => exact res_ .i5 (.reg .d)
  | res5E => exact res_ .i5 (.reg .e)
  | res5H => exact res_ .i5 (.reg .h)
  | res5L => exact res_ .i5 (.reg .l)
  | res5AtHL => exact res_ .i5 .atHL
  | res5A => exact res_ .i5 (.reg .a)
  | res6B => exact res_ .i6 (.reg .b)
  | res6C => exact res_ .i6 (.reg .c)
  | res6D => exact res_ .i6 (.reg .d)
  | res6E => exact res_ .i6 (.reg .e)
  | res6H => exact res_ .i6 (.reg .h)
  | res6L => exact res_ .i6 (.reg .l)
  | res6AtHL => exact res_ .i6 .atHL
  | res6A => exact res_ .i6 (.reg .a)
  | res7B => exact res_ .i7 (.reg .b)
  | res7C => exact res_ .i7 (.reg .c)
  | res7D => exact res_ .i7 (.reg .d)
  | res7E => exact res_ .i7 (.reg .e)
  | res7H => exact res_ .i7 (.reg .h)
  | res7L => exact res_ .i7 (.reg .l)
  | res7AtHL => exact res_ .i7 .atHL
  | res7A => exact res_ .i7 (.reg .a)
  | set0B => exact set_ .i0 (.reg .b)
  | set0C => exact set_ .i0 (.reg .c)
  | set0D => exact set_ .i0 (.reg .d)
  | set0E => exact set_ .i0 (.reg .e)
  | set0H => exact set_ .i0 (.reg .h)
  | set0L => exact set_ .i0 (.reg .l)
  | set0AtHL => exact set_ .i0 .atHL
  | set0A => exact set_ .i0 (.reg .a)
  | set1B => exact set_ .i1 (.reg .b)
  | set1C => exact set_ .i1 (.reg .c)
  | set1D => exact set_ .i1 (.reg .d)
  | set1E => exact set_ .i1 (.reg .e)
  | set1H => exact set_ .i1 (.reg .h)
  | set1L => exact set_ .i1 (.reg .l)
  | set1AtHL => exact set_ .i1 .atHL
  | set1A => exact set_ .i1 (.reg .a)
  | set2B => exact set_ .i2 (.reg .b)
  | set2C => exact set_ .i2 (.reg .c)
  | set2D => exact set_ .i2 (.reg .d)
  | set2E => exact set_ .i2 (.reg .e)
  | set2H => exact set_ .i2 (.reg .h)
  | set2L => exact set_ .i2 (.reg .l)
  | set2AtHL => exact set_ .i2 .atHL
  | set2A => exact set_ .i2 (.reg .a)
  | set3B => exact set_ .i3 (.reg .b)
  | set3C => exact set_ .i3 (.reg .c)
  | set3D => exact set_ .i3 (.reg .d)
  | set3E => exact set_ .i3 (.reg .e)
  | set3H => exact set_ .i3 (.reg .h)
  | set3L => exact set_ .i3 (.reg .l)
  | set3AtHL => exact set_ .i3 .atHL
  | set3A => exact set_ .i3 (.reg .a)
  | set4B => exact set_ .i4 (.reg .b)
  | set4C => exact set_ .i4 (.reg .c)
  | set4D => exact set_ .i4 (.reg .d)
  | set4E => exact set_ .i4 (.reg .e)
  | set4H => exact set_ .i4 (.reg .h)
  | set4L => exact set_ .i4 (.reg .l)
  | set4AtHL => exact set_ .i4 .atHL
  | set4A => exact set_ .i4 (.reg .a)
  | set5B => exact set_ .i5 (.reg .b)
  | set5C => exact set_ .i5 (.reg .c)
  | set5D => exact set_ .i5 (.reg .d)
  | set5E => exact set_ .i5 (.reg .e)
  | set5H => exact set_ .i5 (.reg .h)
  | set5L => exact set_ .i5 (.reg .l)
  | set5AtHL => exact set_ .i5 .atHL
  | set5A => exact set_ .i5 (.reg .a)
  | set6B => exact set_ .i6 (.reg .b)
  | set6C => exact set_ .i6 (.reg .c)
  | set6D => exact set_ .i6 (.reg .d)
  | set6E => exact set_ .i6 (.reg .e)
  | set6H => exact set_ .i6 (.reg .h)
  | set6L => exact set_ .i6 (.reg .l)
  | set6AtHL => exact set_ .i6 .atHL
  | set6A => exact set_ .i6 (.reg .a)
  | set7B => exact set_ .i7 (.reg .b)
  | set7C => exact set_ .i7 (.reg .c)
  | set7D => exact set_ .i7 (.reg .d)
  | set7E => exact set_ .i7 (.reg .e)
  | set7H => exact set_ .i7 (.reg .h)
  | set7L => exact set_ .i7 (.reg .l)
  | set7AtHL => exact set_ .i7 .atHL
  | set7A => exact set_ .i7 (.reg .a)

end Sys2Proof.Laws
end

