-- ==== Sys2Proof/Laws/Inv.lean ====
section
/-! SUPPORT. The part of the invariant about devices and memory is kept by every shared operation. -/

namespace Sys2Proof.Machine

/-- The fields `DataInv` speaks of. -/
structure SameData (s t : State) : Prop where
  oamDma : t.oamDma = s.oamDma
  hdma : t.hdma = s.hdma
  serial : t.serial = s.serial
  cart : t.cart = s.cart
  stores : s.storesWf → t.storesWf

theorem SameData.keep {s t : State} (h : SameData s t) (d : s.DataInv) : t.DataInv :=
  ⟨by rw [h.oamDma]; exact d.oamDma, by rw [h.hdma]; exact d.hdma, by rw [h.serial]; exact d.serial,
    by rw [h.cart]; exact d.banks, h.stores d.stores⟩

/-- An update of the CPU keeps it. -/
theorem data_cpu {s : State} (d : s.DataInv) (c : Cpu) : State.DataInv { s with cpu := c } := ⟨d.1, d.2, d.3, d.4, d.5⟩

/-- So does an update of what it does not speak of. -/
theorem data_note {s : State} (d : s.DataInv) (e : HostEvent) : (s.note e).DataInv := ⟨d.1, d.2, d.3, d.4, d.5⟩

theorem data_nextDraw {s : State} (d : s.DataInv) : s.nextDraw.DataInv := ⟨d.1, d.2, d.3, d.4, d.5⟩

theorem data_noteCart {s : State} (d : s.DataInv) (v : Byte) : (s.noteCart v).DataInv := ⟨d.1, d.2, d.3, d.4, d.5⟩

theorem data_setRamByte {s : State} (d : s.DataInv) (k : Store) (o : Nat) (v : Byte) : (s.setRamByte k o v).DataInv := by
  obtain ⟨w1, w2, w3, w4, w5, w6, w7⟩ := d.stores
  refine ⟨?_, ?_, ?_, ?_, ?_⟩
  · cases k <;> exact d.oamDma
  · cases k <;> exact d.hdma
  · cases k <;> exact d.serial
  · cases k <;> exact d.banks
  · cases k
    · exact ⟨w1, wf_write _ _ w2, w3, w4, w5, w6, w7⟩
    · exact ⟨w1, w2, wf_write _ _ w3, w4, w5, w6, w7⟩
    · exact ⟨w1, w2, w3, wf_write _ _ w4, w5, w6, w7⟩
    · exact ⟨w1, w2, w3, w4, wf_write _ _ w5, w6, w7⟩
    · exact ⟨w1, w2, w3, w4, w5, wf_write _ _ w6, w7⟩

theorem data_resolveRead {s : State} (d : s.DataInv) (a : Addr) : (s.resolveRead a).2.DataInv := by
  unfold State.resolveRead; split
  · split
    · unfold State.bootRead; split
      · exact d
      · exact data_nextDraw d
    · unfold State.romRead; split
      · exact data_noteCart d _
      · exact data_nextDraw d
  · exact data_nextDraw d
  · unfold State.cartRead; split
    · exact data_noteCart d _
    · exact data_noteCart d _
    · exact data_noteCart d _
    · exact data_nextDraw d
  all_goals first | exact d | exact data_nextDraw d

theorem zeroToOne_ne {n : Nat} (v : BitVec (n + 1)) : zeroToOne v ≠ 0 := by
  unfold zeroToOne; split
  · simp
  · assumption

theorem setWidth_ne {n : Nat} (v : BitVec n) (h : v ≠ 0) (hn : n ≤ 9) : v.setWidth 9 ≠ 0 := by
  intro h0
  apply h
  have := congrArg BitVec.toNat h0
  have hv := v.isLt
  have hp : 2 ^ n ≤ 2 ^ 9 := Nat.pow_le_pow_right (by decide) hn
  refine BitVec.eq_of_toNat_eq ?_
  simp only [BitVec.toNat_setWidth] at this ⊢
  rw [Nat.mod_eq_of_lt (by omega)] at this
  simpa using this

theorem control_info (c : Cart) (a : Addr) (v : Byte) : (c.control a v).info = c.info := by
  unfold Cart.control; dsimp only
  split <;> (repeat' split) <;> rfl

theorem banks_control {c : Cart} (h : c.banksNonZero) (a : Addr) (v : Byte) : (c.control a v).banksNonZero := by
  obtain ⟨h1, h2⟩ := h
  unfold Cart.banksNonZero
  rw [control_info]
  unfold Cart.control; dsimp only
  split <;> rename_i hk <;> rw [hk] at h1 h2 ⊢ <;> (repeat' split)
  all_goals refine ⟨fun hh => ?_, fun hh => ?_⟩
  all_goals first
    | exact h1 hh
    | exact h2 hh
    | exact zeroToOne_ne (n := 4) _
    | exact setWidth_ne (n := 4) _ (zeroToOne_ne _) (by decide)
    | exact setWidth_ne (n := 7) _ (zeroToOne_ne _) (by decide)
    | simp at hh

theorem data_bankWrite {s : State} (d : s.DataInv) (a : Addr) (v : Byte) : (s.bankWrite a v).DataInv :=
  ⟨d.1, d.2, d.3, banks_control d.banks a v, d.5⟩

theorem data_cartWrite {s : State} (d : s.DataInv) (a : Addr) (v : Byte) : (s.cartWrite a v).DataInv := by
  have d' := data_noteCart d v
  unfold State.cartWrite; dsimp only; split
  · exact data_setRamByte d' _ _ _
  · exact data_setRamByte d' _ _ _
  · exact ⟨d'.1, d'.2, d'.3, d'.4, d'.5⟩
  · exact d'

theorem hdma_writeControl {p : Hdma} (h : (p.active = true → 0 < p.blocks) ∧ p.blocks ≤ 128) (v : Byte) :
    ((p.writeControl v).active = true → 0 < (p.writeControl v).blocks) ∧ (p.writeControl v).blocks ≤ 128 := by
  have hv := (v.extractLsb' 0 7).isLt
  unfold Hdma.writeControl; dsimp only; split
  · exact ⟨fun _ => Nat.succ_pos _, show (v.extractLsb' 0 7).toNat + 1 ≤ 128 by omega⟩
  · split
    · exact ⟨fun hh => by simp at hh, h.2⟩
    · exact h

theorem bits_writeSc {p : Serial} (h : p.bits < 8) (m : Model) (v : Byte) : (p.writeSc m v).bits < 8 := by
  unfold Serial.writeSc; dsimp only; split
  · exact Nat.zero_lt_succ 7
  · exact h

theorem data_ioWrite {s : State} (d : s.DataInv) (a : Addr) (v : Byte) (r : IoReg) : (s.ioWrite a v r).DataInv := by
  cases r <;> try exact ⟨d.1, d.2, d.3, d.4, d.5⟩
  · exact ⟨d.1, d.2, bits_writeSc d.3 _ _, d.4, d.5⟩
  · refine ⟨⟨fun hh => ?_, fun _ => Nat.zero_lt_succ 159⟩, d.2, d.3, d.4, d.5⟩
    exact absurd hh Bool.false_ne_true
  · exact ⟨d.1, hdma_writeControl d.2 v, d.3, d.4, d.5⟩
  · obtain ⟨w1, w2, w3, w4, w5, w6, w7⟩ := d.stores
    exact ⟨d.1, d.2, d.3, d.4, w1, w2, w3, w4, w5, w6, wf_write _ _ w7⟩

theorem data_gated {s : State} (d : s.DataInv) (b : Bool) (o : Nat) (v : Byte) :
    State.DataInv { s.nextDraw with vram := if b then s.vram.write o v else s.vram } ∧
    State.DataInv { s.nextDraw with oam := if b then s.oam.write o v else s.oam } := by
  obtain ⟨w1, w2, w3, w4, w5, w6, w7⟩ := d.stores
  cases b
  · exact ⟨data_nextDraw d, data_nextDraw d⟩
  · exact ⟨⟨d.1, d.2, d.3, d.4, w1, wf_write _ _ w2, w3, w4, w5, w6, w7⟩,
      ⟨d.1, d.2, d.3, d.4, w1, w2, w3, wf_write _ _ w4, w5, w6, w7⟩⟩

theorem data_resolveWrite {s : State} (d : s.DataInv) (a : Addr) (v : Byte) : (s.resolveWrite a v).DataInv := by
  unfold State.resolveWrite; split
  · exact d
  · split
    · exact data_bankWrite d _ _
    · exact (data_gated d _ _ v).1
    · exact data_cartWrite d _ _
    · exact data_setRamByte d _ _ _
    · exact (data_gated d _ _ v).2
    · exact d
    · exact data_ioWrite d _ _ _
    · exact data_setRamByte d _ _ _
    · exact ⟨d.1, d.2, d.3, d.4, d.5⟩

theorem data_refuse {s : State} (d : s.DataInv) : s.refuse.DataInv := ⟨d.1, d.2, d.3, d.4, d.5⟩

theorem data_pokeArea {s : State} (d : s.DataInv) (i o : Nat) (v : Byte) : (s.pokeArea i o v).DataInv := by
  unfold State.pokeArea; split
  · exact data_refuse d
  · split
    · split
      all_goals first
        | exact data_setRamByte d _ _ _
        | skip
      obtain ⟨w1, w2, w3, w4, w5, w6, w7⟩ := d.stores
      exact ⟨d.1, d.2, d.3, d.4, wf_write _ _ w1, w2, w3, w4, w5, w6, w7⟩
    · exact data_refuse d

theorem data_hookAction {s : State} (d : s.DataInv) (x : HookAction) : (s.hookAction x).DataInv := by
  cases x <;> simp only [State.hookAction]
  · exact data_note (data_resolveRead d _) _
  · exact data_resolveWrite d _ _
  · exact data_note d _
  · exact data_note d _
  · exact data_pokeArea d _ _ _
  · exact ⟨d.1, d.2, d.3, d.4, d.5⟩
  · split
    · exact ⟨d.1, d.2, d.3, d.4, d.5⟩
    · exact data_refuse d
  · split
    · exact ⟨d.1, d.2, d.3, d.4, d.5⟩
    · exact data_refuse d
  · exact data_note (data_nextDraw d) _
  · exact data_refuse d

theorem data_hookActions {s : State} (d : s.DataInv) (xs : List HookAction) : (s.hookActions xs).DataInv := by
  induction xs generalizing s with
  | nil => exact d
  | cons x xs ih => exact ih (data_hookAction d x)

theorem data_callHook {s : State} (d : s.DataInv) (c : HookCall) : (s.callHook c).2.DataInv := by
  have d' := data_note d (.call c)
  unfold State.callHook; split
  · exact data_nextDraw d'
  · rename_i rs _
    exact data_hookActions (s := (s.note (.call c)).setReplies rs) ⟨d'.1, d'.2, d'.3, d'.4, d'.5⟩ _

theorem data_fire {s : State} (d : s.DataInv) (b : Bool) (c : HookCall) : (s.fire b c).DataInv := by
  unfold State.fire; split
  · exact data_callHook d c
  · exact d

theorem data_codeData {s : State} (d : s.DataInv) (a : Addr) (k : CdlFlag) : (s.codeData a k).DataInv := data_fire d _ _

theorem data_checkBreakpoint {s : State} (d : s.DataInv) (a : Addr) : (s.checkBreakpoint a).DataInv := by
  unfold State.checkBreakpoint; split
  · exact ⟨d.1, d.2, d.3, d.4, d.5⟩
  · exact d

theorem data_sampleLines {s : State} (d : s.DataInv) (m : Byte) : (s.sampleLines m).DataInv := ⟨d.1, d.2, d.3, d.4, d.5⟩

theorem data_pollInput {s : State} (d : s.DataInv) : s.pollInput.DataInv := by
  unfold State.pollInput; split
  · exact data_sampleLines (data_callHook d _) _
  · exact data_sampleLines d _

theorem data_cpuRead {s : State} (d : s.DataInv) (a : Addr) : (s.cpuRead a).2.DataInv := by
  unfold State.cpuRead; split
  · exact data_nextDraw d
  · split
    · exact data_resolveRead (data_pollInput d) _
    · exact data_resolveRead d _

theorem data_cpuWrite {s : State} (d : s.DataInv) (a : Addr) (v : Byte) : (s.cpuWrite a v).DataInv := by
  unfold State.cpuWrite; split
  · exact data_pollInput (data_resolveWrite d _ _)
  · exact data_resolveWrite d _ _

/-! Devices. -/

theorem data_oamDmaPhase {s : State} (d : s.DataInv) : s.oamDmaPhase.DataInv := by
  unfold State.oamDmaPhase; split
  · rename_i h
    exact ⟨⟨fun _ => rfl, fun _ => d.oamDma.2 (.inr h)⟩, d.2, d.3, d.4, d.5⟩
  · split
    · rename_i hs ha
      have r := data_resolveRead d (oamDmaSource (word s.oamDma.reg (BitVec.ofNat 8 s.oamDma.index)))
      obtain ⟨w1, w2, w3, w4, w5, w6, w7⟩ := r.stores
      refine ⟨⟨fun _ => Bool.eq_false_iff.2 hs, fun hh => ?_⟩, r.2, r.3, r.4, w1, w2, w3, wf_write _ _ w4, w5, w6, w7⟩
      rcases hh with hh | hh
      · exact of_decide_eq_true hh
      · exact absurd hh hs
    · exact d

theorem bits_endCycle {p : Serial} (h : p.bits < 8) (q : Peer) : (p.endCycle q).bits < 8 := by
  unfold Serial.endCycle; split
  · rename_i hb
    show (if p.completes q then 0 else p.bits + 1) < 8
    split
    · decide
    · rename_i hc
      have : ¬7 ≤ p.bits := by simpa [Serial.completes, hb] using hc
      omega
  · split <;> exact h

theorem data_serialPhase {s : State} (d : s.DataInv) : s.serialPhase.DataInv :=
  data_fire (s := s.advanceSerial) ⟨d.1, d.2, bits_endCycle d.3 _, d.4, d.5⟩ _ _

theorem data_requestVblank {s : State} (d : s.DataInv) : s.requestVblank.DataInv := ⟨d.1, d.2, d.3, d.4, d.5⟩

theorem data_frameEvent {s : State} (d : s.DataInv) (f : Frame) : (s.frameEvent f).DataInv := ⟨d.1, d.2, d.3, d.4, d.5⟩

theorem data_linePhase {s : State} (d : s.DataInv) : s.linePhase.DataInv := by
  unfold State.linePhase; split
  · split
    · unfold State.startLine; dsimp only; split
      · exact data_frameEvent (data_requestVblank (data_fire d _ _)) _
      · exact data_fire d _ _
    · exact d
  · split
    · exact data_frameEvent d _
    · exact d

theorem data_hdmaByte {s : State} (d : s.DataInv) : s.hdmaByte.DataInv := by
  have r : (s.hdmaRead s.hdma.src).2.DataInv := by
    unfold State.hdmaRead; split
    · exact d
    · exact data_resolveRead d _
  obtain ⟨w1, w2, w3, w4, w5, w6, w7⟩ := r.stores
  exact ⟨r.1, d.2, r.3, r.4, w1, wf_write _ _ w2, w3, w4, w5, w6, w7⟩

theorem data_hdmaBytes {s : State} (d : s.DataInv) (n : Nat) : (s.hdmaBytes n).DataInv := by
  induction n with
  | zero => exact d
  | succ n ih => rw [State.hdmaBytes]; exact data_hdmaByte ih

theorem data_addStall {s : State} (d : s.DataInv) (n : BitVec 16) : (s.addStall n).DataInv := ⟨d.1, d.2, d.3, d.4, d.5⟩

theorem data_hdmaBlock {s : State} (d : s.DataInv) : s.hdmaBlock.DataInv := by
  rw [State.hdmaBlock]; exact data_addStall (data_hdmaBytes d 16) _

theorem data_hdmaBlocks {s : State} (d : s.DataInv) (n : Nat) : (s.hdmaBlocks n).DataInv := by
  induction n with
  | zero => exact d
  | succ n ih => rw [State.hdmaBlocks]; exact data_hdmaBlock ih

theorem data_hdmaGeneral {s : State} (d : s.DataInv) : s.hdmaGeneral.DataInv :=
  data_hdmaBlocks (s := { s with hdma := { s.hdma with pending := 0 } }) ⟨d.1, d.2, d.3, d.4, d.5⟩ _

theorem data_hblankPhase {s : State} (d : s.DataInv) : s.hblankPhase.DataInv := by
  unfold State.hblankPhase; split
  · refine data_hdmaBlock
      (s := { s with hdma := { s.hdma with active := decide (1 < s.hdma.blocks), blocks := s.hdma.blocks - 1 } })
      ⟨d.1, ⟨fun hh => ?_, ?_⟩, d.3, d.4, d.5⟩
    · have := of_decide_eq_true hh
      show 0 < s.hdma.blocks - 1
      omega
    · have := d.hdma.2
      show s.hdma.blocks - 1 ≤ 128
      omega
  · exact d

theorem data_statPhase {s : State} (d : s.DataInv) : s.statPhase.DataInv := ⟨d.1, d.2, d.3, d.4, d.5⟩

theorem data_advanceLine {s : State} (d : s.DataInv) : s.advanceLine.DataInv := ⟨d.1, d.2, d.3, d.4, d.5⟩

theorem data_rtcPhase {s : State} (d : s.DataInv) : s.rtcPhase.DataInv := by
  unfold State.rtcPhase; split
  · exact ⟨d.1, d.2, d.3, d.4, d.5⟩
  · exact d

theorem data_samplePhase {s : State} (d : s.DataInv) : s.samplePhase.DataInv := by
  unfold State.samplePhase; split
  · exact ⟨d.1, d.2, d.3, d.4, d.5⟩
  · exact d

theorem data_countTick {s : State} (d : s.DataInv) : s.countTick.DataInv := ⟨d.1, d.2, d.3, d.4, d.5⟩

theorem data_baseTick {s : State} (d : s.DataInv) : s.baseTick.DataInv :=
  data_countTick (data_samplePhase (data_rtcPhase (data_advanceLine (data_hblankPhase (data_statPhase (data_linePhase d))))))

theorem data_basePhase {s : State} (d : s.DataInv) : s.basePhase.DataInv := by
  have h := data_baseTick (data_baseTick d)
  unfold State.basePhase; split
  · exact h
  · exact data_baseTick (data_baseTick h)

theorem data_timerPhase {s : State} (d : s.DataInv) (b : Bool) : (s.timerPhase b).DataInv := ⟨d.1, d.2, d.3, d.4, d.5⟩

theorem data_countCycle {s : State} (d : s.DataInv) : s.countCycle.DataInv := ⟨d.1, d.2, d.3, d.4, d.5⟩

theorem data_deviceCycle {s : State} (d : s.DataInv) (b : Bool) : (s.deviceCycle b).DataInv :=
  data_hdmaGeneral (data_countCycle (data_basePhase (data_serialPhase (data_oamDmaPhase (data_timerPhase d b)))))

/-! The CPU primitives. -/

theorem data_internal {s : State} (d : s.DataInv) : s.internal.DataInv := data_deviceCycle d true

theorem data_memRead {s : State} (d : s.DataInv) (a : Addr) : (s.memRead a).2.DataInv :=
  data_deviceCycle (data_cpuRead (data_codeData (data_fire d _ _) a .data) a) true

theorem data_memWrite {s : State} (d : s.DataInv) (a : Addr) (v : Byte) : (s.memWrite a v).DataInv :=
  data_deviceCycle (data_cpuWrite (data_codeData (data_fire d _ _) a .data) a v) true

theorem data_nextPc {s : State} (d : s.DataInv) : s.nextPc.DataInv := by
  unfold State.nextPc; split
  · exact data_cpu d _
  · exact data_cpu d _

theorem data_fetchOp {s : State} (d : s.DataInv) : s.fetchOp.2.DataInv :=
  data_deviceCycle (data_nextPc (data_cpuRead (data_checkBreakpoint (data_codeData (data_fire d _ _) _ _) _) _)) true

theorem data_fetchImm {s : State} (d : s.DataInv) : s.fetchImm.2.DataInv :=
  data_deviceCycle (data_cpu (data_cpuRead (data_codeData d s.cpu.pc .execOperand) s.cpu.pc) _) true

theorem data_fetchImms {s : State} (d : s.DataInv) (n : Nat) : (s.fetchImms n).2.DataInv := by
  induction n generalizing s with
  | zero => exact d
  | succ n ih => exact ih (data_fetchImm d)

theorem data_pushByte {s : State} (d : s.DataInv) (v : Byte) : (s.pushByte v).DataInv := data_memWrite (data_cpu d _) _ _

theorem data_pushWord {s : State} (d : s.DataInv) (v : Addr) : (s.pushWord v).DataInv := data_pushByte (data_pushByte d _) _

theorem data_popByte {s : State} (d : s.DataInv) : s.popByte.2.DataInv := data_cpu (data_memRead d _) _

theorem data_popWord {s : State} (d : s.DataInv) : s.popWord.2.DataInv := data_popByte (data_popByte d)

theorem data_jump {s : State} (d : s.DataInv) (a : Addr) : (s.jump a).DataInv := data_cpu (data_internal d) _

theorem data_call {s : State} (d : s.DataInv) (a : Addr) : (s.call a).DataInv := data_cpu (data_pushWord (data_internal d) _) _

theorem data_ret {s : State} (d : s.DataInv) : s.ret.DataInv := data_jump (data_popWord d) _

theorem data_interruptReturn {s : State} (d : s.DataInv) : s.interruptReturn.DataInv := data_cpu (data_ret d) _

theorem data_acknowledge {s : State} (d : s.DataInv) (w : Option Nat) : (s.acknowledge w).DataInv := by
  cases w
  · exact d
  · exact ⟨d.1, d.2, d.3, d.4, d.5⟩

theorem data_dispatch {s : State} (d : s.DataInv) : s.dispatch.DataInv :=
  data_jump (data_acknowledge (data_pushByte (data_pushByte (data_internal (data_internal (data_cpu d _))) _) _) _) _

theorem data_internals {s : State} (d : s.DataInv) (n : Nat) : (s.internals n).DataInv := by
  induction n generalizing s with
  | zero => exact d
  | succ n ih => exact ih (data_internal d)

theorem data_haltWake {s : State} (d : s.DataInv) : s.haltWake.DataInv := data_internals (data_cpu d _) _

theorem data_stallCycle {s : State} (d : s.DataInv) : s.stallCycle.DataInv := data_cpu (data_deviceCycle d _) _

theorem data_stopCycle {s : State} (d : s.DataInv) : s.stopCycle.DataInv :=
  data_cpu (data_deviceCycle (data_pollInput d) false) _

theorem data_startInstr {s : State} (d : s.DataInv) : s.startInstr.DataInv := data_fire (data_cpu d _) _ _

theorem data_lowFirst {s : State} (d : s.DataInv) (op lo : Byte) : (s.lowFirst op lo).DataInv := by
  unfold State.lowFirst; split
  · exact data_cpu d _
  · exact d

theorem data_fetchOperands {s : State} (d : s.DataInv) (op : Byte) (n : Nat) : (s.fetchOperands op n).2.DataInv := by
  cases n with
  | zero => exact d
  | succ n => exact data_fetchImms (data_lowFirst (data_fetchImm d) _ _) n

theorem data_fetchInstr {s : State} (d : s.DataInv) : s.fetchInstr.2.DataInv := data_fetchOperands (data_fetchOp d) _ _

theorem data_readOperand {s : State} (d : s.DataInv) (o : Operand8) : (s.readOperand o).2.DataInv := by
  cases o
  · exact d
  · exact data_memRead d _

theorem data_writeOperand {s : State} (d : s.DataInv) (o : Operand8) (v : Byte) : (s.writeOperand o v).DataInv := by
  cases o
  · exact data_cpu d _
  · exact data_memWrite d _ _

end Sys2Proof.Machine
end

