-- ==== Sys2Proof/Laws/Fixed.lean ====
section
/-! SUPPORT. What no operation of a step changes: the machine model and boot state, the cartridge's metadata, whether a cartridge is
loaded; ROM, when the host makes no calls from hooks; and the refused mark, when it makes no refused one (10_state.md R43; 20_memory.md
R55, R65, R72; 00_scope.md R25). -/

namespace Sys2Proof.Machine

/-- The parts of the machine that no step changes, whatever calls the host makes from hooks. -/
structure SameKind (s t : State) : Prop where
  model : t.model = s.model
  agbRegs : t.agbRegs = s.agbRegs
  bios : t.bios = s.bios
  loaded : t.loaded = s.loaded
  bootDmg : t.bootDmg = s.bootDmg
  bootCgb : t.bootCgb = s.bootCgb
  bootRom : t.bootRom = s.bootRom
  info : t.cart.info = s.cart.info
  bootMapped : s.bootMapped = false → t.bootMapped = false

theorem SameKind.refl (s : State) : SameKind s s := ⟨rfl, rfl, rfl, rfl, rfl, rfl, rfl, rfl, id⟩

theorem SameKind.trans {s t u : State} (h : SameKind s t) (k : SameKind t u) : SameKind s u :=
  ⟨k.1.trans h.1, k.2.trans h.2, k.3.trans h.3, k.4.trans h.4, k.5.trans h.5, k.6.trans h.6, k.7.trans h.7, k.8.trans h.8,
    k.9 ∘ h.9⟩

/-- What the host may do from a hook depends on none of what a step changes. -/
theorem SameKind.allows {s t : State} (h : SameKind s t) (x : HookAction) : t.allows x = s.allows x := by
  cases x <;> simp [State.allows, State.areaLength, h.model, h.loaded, h.info]

/-- The parts of the machine that no step changes; and, where the host makes no refused call, the refused mark. -/
structure SameMachine (s t : State) : Prop extends SameKind s t where
  host : s.host.replies = [] → t.host.replies = [] ∧ t.rom = s.rom
  behave : s.HooksBehave → t.HooksBehave ∧ t.host.refusedMark = s.host.refusedMark

theorem SameMachine.refl (s : State) : SameMachine s s := ⟨.refl s, fun h => ⟨h, rfl⟩, fun h => ⟨h, rfl⟩⟩

theorem SameMachine.trans {s t u : State} (h : SameMachine s t) (k : SameMachine t u) : SameMachine s u :=
  ⟨h.1.trans k.1, fun r => ⟨(k.2 (h.2 r).1).1, (k.2 (h.2 r).1).2.trans (h.2 r).2⟩,
    fun b => ⟨(k.3 (h.3 b).1).1, (k.3 (h.3 b).1).2.trans (h.3 b).2⟩⟩

theorem SameMachine.kind {s t : State} (h : SameMachine s t) : SameKind s t := h.1

/-- With no reply left the host makes no refused call. -/
theorem behave_of_no_replies {s : State} (h : s.host.replies = []) : s.HooksBehave := by
  intro r hr; rw [h] at hr; cases hr

/-- A machine whose remaining replies and kind are those of another has the same calls before it. -/
theorem SameKind.behave {s t : State} (k : SameKind s t) (h : t.host.replies = s.host.replies) (b : s.HooksBehave) :
    t.HooksBehave := by
  intro r hr a ha
  rw [k.allows]
  exact b r (h ▸ hr) a ha

/-- An update that leaves all of these parts as they are. -/
theorem fixed_of_kind {s t : State} (k : SameKind s t) (h9 : t.host.replies = s.host.replies)
    (h10 : t.host.refusedMark = s.host.refusedMark) (h11 : t.rom = s.rom) : SameMachine s t :=
  ⟨k, fun h => ⟨h9.trans h, h11⟩, fun b => ⟨k.behave h9 b, h10⟩⟩

/-- An update that leaves all of these parts as they are, field by field. -/
theorem fixed_of_eq {s t : State} (h1 : t.model = s.model) (h2 : t.agbRegs = s.agbRegs) (h3 : t.bios = s.bios)
    (h4 : t.loaded = s.loaded) (h5 : t.bootDmg = s.bootDmg) (h6 : t.bootCgb = s.bootCgb) (hr : t.bootRom = s.bootRom)
    (h7 : t.cart.info = s.cart.info) (h8 : t.bootMapped = s.bootMapped) (h9 : t.host.replies = s.host.replies)
    (h10 : t.host.refusedMark = s.host.refusedMark) (h11 : t.rom = s.rom) : SameMachine s t :=
  fixed_of_kind ⟨h1, h2, h3, h4, h5, h6, hr, h7, fun h => h8.trans h⟩ h9 h10 h11

theorem fixed_cpu (s : State) (c : Cpu) : SameMachine s { s with cpu := c } := fixed_of_eq rfl rfl rfl rfl rfl rfl rfl rfl rfl rfl rfl rfl

theorem fixed_note (s : State) (e : HostEvent) : SameMachine s (s.note e) := fixed_of_eq rfl rfl rfl rfl rfl rfl rfl rfl rfl rfl rfl rfl

theorem fixed_nextDraw (s : State) : SameMachine s s.nextDraw := fixed_of_eq rfl rfl rfl rfl rfl rfl rfl rfl rfl rfl rfl rfl

theorem fixed_noteCart (s : State) (v : Byte) : SameMachine s (s.noteCart v) :=
  fixed_of_eq rfl rfl rfl rfl rfl rfl rfl rfl rfl rfl rfl rfl

theorem fixed_setRamByte (s : State) (k : Store) (o : Nat) (v : Byte) : SameMachine s (s.setRamByte k o v) := by
  cases k <;> exact fixed_of_eq rfl rfl rfl rfl rfl rfl rfl rfl rfl rfl rfl rfl

theorem fixed_resolveRead (s : State) (a : Addr) : SameMachine s (s.resolveRead a).2 := by
  unfold State.resolveRead; split
  · split
    · unfold State.bootRead; split
      · exact .refl s
      · exact fixed_nextDraw s
    · unfold State.romRead; split
      · exact fixed_noteCart s _
      · exact fixed_nextDraw s
  · exact fixed_nextDraw s
  · unfold State.cartRead; split
    · exact fixed_noteCart s _
    · exact fixed_noteCart s _
    · exact fixed_noteCart s _
    · exact fixed_nextDraw s
  all_goals first | exact .refl s | exact fixed_nextDraw s

theorem fixed_bankWrite (s : State) (a : Addr) (v : Byte) : SameMachine s (s.bankWrite a v) :=
  fixed_of_eq rfl rfl rfl rfl rfl rfl rfl (control_info s.cart a v) rfl rfl rfl rfl

theorem fixed_cartWrite (s : State) (a : Addr) (v : Byte) : SameMachine s (s.cartWrite a v) := by
  unfold State.cartWrite; dsimp only; split
  · exact (fixed_noteCart s v).trans (fixed_setRamByte _ _ _ _)
  · exact (fixed_noteCart s v).trans (fixed_setRamByte _ _ _ _)
  · exact fixed_of_eq rfl rfl rfl rfl rfl rfl rfl rfl rfl rfl rfl rfl
  · exact fixed_noteCart s v

theorem fixed_ioWrite (s : State) (a : Addr) (v : Byte) (r : IoReg) : SameMachine s (s.ioWrite a v r) := by
  cases r
  case bootOff =>
    refine fixed_of_kind ⟨rfl, rfl, rfl, rfl, rfl, rfl, rfl, rfl, fun h => ?_⟩ rfl rfl rfl
    simp [State.ioWrite, h]
  all_goals exact fixed_of_eq rfl rfl rfl rfl rfl rfl rfl rfl rfl rfl rfl rfl

theorem fixed_resolveWrite (s : State) (a : Addr) (v : Byte) : SameMachine s (s.resolveWrite a v) := by
  unfold State.resolveWrite; split
  · exact .refl s
  · split
    · exact fixed_bankWrite s _ _
    · exact fixed_of_eq rfl rfl rfl rfl rfl rfl rfl rfl rfl rfl rfl rfl
    · exact fixed_cartWrite s _ _
    · exact fixed_setRamByte s _ _ _
    · exact fixed_of_eq rfl rfl rfl rfl rfl rfl rfl rfl rfl rfl rfl rfl
    · exact .refl s
    · exact fixed_ioWrite s _ _ _
    · exact fixed_setRamByte s _ _ _
    · exact fixed_of_eq rfl rfl rfl rfl rfl rfl rfl rfl rfl rfl rfl rfl

/-! Hooks: a reply may write ROM through a pointer, or be a call that is refused, so only the first parts are kept. -/

theorem kind_refuse (s : State) : SameKind s s.refuse := ⟨rfl, rfl, rfl, rfl, rfl, rfl, rfl, rfl, id⟩

theorem kind_pokeArea (s : State) (i o : Nat) (v : Byte) : SameKind s (s.pokeArea i o v) := by
  unfold State.pokeArea; split
  · exact kind_refuse s
  · split
    · split
      all_goals first | exact (fixed_setRamByte s _ _ _).kind | exact ⟨rfl, rfl, rfl, rfl, rfl, rfl, rfl, rfl, id⟩
    · exact kind_refuse s

theorem kind_hookAction (s : State) (x : HookAction) : SameKind s (s.hookAction x) := by
  cases x <;> simp only [State.hookAction]
  · exact ((fixed_resolveRead s _).trans (fixed_note _ _)).kind
  · exact (fixed_resolveWrite s _ _).kind
  · exact ⟨rfl, rfl, rfl, rfl, rfl, rfl, rfl, rfl, id⟩
  · exact ⟨rfl, rfl, rfl, rfl, rfl, rfl, rfl, rfl, id⟩
  · exact kind_pokeArea s _ _ _
  · exact ⟨rfl, rfl, rfl, rfl, rfl, rfl, rfl, rfl, id⟩
  · split <;> exact ⟨rfl, rfl, rfl, rfl, rfl, rfl, rfl, rfl, id⟩
  · split <;> exact ⟨rfl, rfl, rfl, rfl, rfl, rfl, rfl, rfl, id⟩
  · exact ⟨rfl, rfl, rfl, rfl, rfl, rfl, rfl, rfl, id⟩
  · exact kind_refuse s

theorem kind_hookActions (s : State) (xs : List HookAction) : SameKind s (s.hookActions xs) := by
  induction xs generalizing s with
  | nil => exact .refl s
  | cons x xs ih => exact (kind_hookAction s x).trans (ih _)

/-- A read or a write by the bus changes nothing of the host side. -/
theorem resolveRead_host (s : State) (a : Addr) : (s.resolveRead a).2.host = s.host := by
  unfold State.resolveRead; split
  · split
    · unfold State.bootRead; split <;> rfl
    · unfold State.romRead; split <;> rfl
  · rfl
  · unfold State.cartRead; split <;> rfl
  all_goals rfl

theorem resolveWrite_host (s : State) (a : Addr) (v : Byte) : (s.resolveWrite a v).host = s.host := by
  unfold State.resolveWrite; split
  · rfl
  · split
    case h_3 => unfold State.cartWrite; dsimp only; split <;> rfl
    case h_7 r _ => cases r <;> rfl
    all_goals rfl

/-- No call from a hook changes the replies still to come. -/
theorem hookAction_replies (s : State) (x : HookAction) : (s.hookAction x).host.replies = s.host.replies := by
  cases x <;> simp only [State.hookAction]
  · exact congrArg HostSide.replies (a₁ := (s.resolveRead _).2.host) (resolveRead_host s _)
  · exact congrArg HostSide.replies (resolveWrite_host s _ _)
  · rfl
  · rfl
  · rename_i i o v
    unfold State.pokeArea State.setRamByte State.setStore State.refuse
    split
    · rfl
    · split
      · split <;> rfl
      · rfl
  · rfl
  · split <;> rfl
  · split <;> rfl
  all_goals rfl

/-- A call a hook may make leaves the refused mark as it is. -/
theorem hookAction_mark (s : State) (x : HookAction) (h : s.allows x = true) :
    (s.hookAction x).host.refusedMark = s.host.refusedMark := by
  cases x <;> simp only [State.hookAction]
  · exact congrArg HostSide.refusedMark (a₁ := (s.resolveRead _).2.host) (resolveRead_host s _)
  · exact congrArg HostSide.refusedMark (resolveWrite_host s _ _)
  · rfl
  · rfl
  · rename_i i o v
    simp only [State.allows] at h
    unfold State.pokeArea State.setRamByte State.setStore
    split
    · rename_i e; rw [e] at h; contradiction
    · rename_i n e
      rw [e] at h
      rw [if_pos (by simpa using h)]
      split <;> rfl
  · rfl
  · simp only [State.allows, Bool.and_eq_true, decide_eq_true_eq] at h
    rw [if_pos h]; rfl
  · simp only [State.allows, beq_iff_eq] at h
    rw [if_pos h]; rfl
  · rfl
  · contradiction

theorem hookActions_replies (s : State) (xs : List HookAction) : (s.hookActions xs).host.replies = s.host.replies := by
  induction xs generalizing s with
  | nil => rfl
  | cons x xs ih => exact (ih _).trans (hookAction_replies s x)

theorem hookActions_mark (s : State) (xs : List HookAction) (h : ∀ x ∈ xs, s.allows x = true) :
    (s.hookActions xs).host.refusedMark = s.host.refusedMark := by
  induction xs generalizing s with
  | nil => rfl
  | cons x xs ih =>
    refine (ih (s.hookAction x) fun y hy => ?_).trans (hookAction_mark s x (h x (by simp)))
    rw [(kind_hookAction s x).allows]
    exact h y (by simp [hy])

theorem fixed_callHook (s : State) (c : HookCall) : SameMachine s (s.callHook c).2 := by
  cases h : s.host.replies with
  | nil =>
    unfold State.callHook; rw [h]
    exact fixed_of_eq rfl rfl rfl rfl rfl rfl rfl rfl rfl rfl rfl rfl
  | cons r rs =>
    have e : (s.callHook c).2 = ((s.note (.call c)).setReplies rs).hookActions r.actions := by unfold State.callHook; rw [h]
    have k0 : SameKind s ((s.note (.call c)).setReplies rs) := ⟨rfl, rfl, rfl, rfl, rfl, rfl, rfl, rfl, id⟩
    rw [e]
    refine ⟨k0.trans (kind_hookActions _ _), fun n => by rw [h] at n; contradiction, fun b => ⟨?_, ?_⟩⟩
    · refine (kind_hookActions _ _).behave (hookActions_replies _ _) fun q hq a ha => ?_
      rw [k0.allows]
      exact b q (by rw [h]; exact List.mem_cons_of_mem r hq) a ha
    · refine hookActions_mark _ _ fun x hx => ?_
      rw [k0.allows]
      exact b r (by rw [h]; simp) x hx

theorem fixed_fire (s : State) (b : Bool) (c : HookCall) : SameMachine s (s.fire b c) := by
  unfold State.fire; split
  · exact fixed_callHook s c
  · exact .refl s

theorem fixed_codeData (s : State) (a : Addr) (k : CdlFlag) : SameMachine s (s.codeData a k) := fixed_fire s _ _

theorem fixed_checkBreakpoint (s : State) (a : Addr) : SameMachine s (s.checkBreakpoint a) := by
  unfold State.checkBreakpoint; split
  · exact fixed_of_eq rfl rfl rfl rfl rfl rfl rfl rfl rfl rfl rfl rfl
  · exact .refl s

theorem fixed_sampleLines (s : State) (m : Byte) : SameMachine s (s.sampleLines m) :=
  fixed_of_eq rfl rfl rfl rfl rfl rfl rfl rfl rfl rfl rfl rfl

theorem fixed_pollInput (s : State) : SameMachine s s.pollInput := by
  unfold State.pollInput; split
  · exact (fixed_callHook s _).trans (fixed_sampleLines _ _)
  · exact fixed_sampleLines s _

theorem fixed_cpuRead (s : State) (a : Addr) : SameMachine s (s.cpuRead a).2 := by
  unfold State.cpuRead; split
  · exact fixed_nextDraw s
  · split
    · exact (fixed_pollInput s).trans (fixed_resolveRead _ _)
    · exact fixed_resolveRead s _

theorem fixed_cpuWrite (s : State) (a : Addr) (v : Byte) : SameMachine s (s.cpuWrite a v) := by
  unfold State.cpuWrite; split
  · exact (fixed_resolveWrite s _ _).trans (fixed_pollInput _)
  · exact fixed_resolveWrite s _ _

/-! Devices. -/

theorem fixed_oamDmaPhase (s : State) : SameMachine s s.oamDmaPhase := by
  unfold State.oamDmaPhase; split
  · exact fixed_of_eq rfl rfl rfl rfl rfl rfl rfl rfl rfl rfl rfl rfl
  · split
    · exact (fixed_resolveRead s _).trans (fixed_of_eq rfl rfl rfl rfl rfl rfl rfl rfl rfl rfl rfl rfl)
    · exact .refl s

theorem fixed_serialPhase (s : State) : SameMachine s s.serialPhase :=
  SameMachine.trans (t := s.advanceSerial) (fixed_of_eq rfl rfl rfl rfl rfl rfl rfl rfl rfl rfl rfl rfl) (fixed_fire _ _ _)

theorem fixed_frameEvent (s : State) (f : Frame) : SameMachine s (s.frameEvent f) :=
  fixed_of_eq rfl rfl rfl rfl rfl rfl rfl rfl rfl rfl rfl rfl

theorem fixed_linePhase (s : State) : SameMachine s s.linePhase := by
  unfold State.linePhase; split
  · split
    · unfold State.startLine; dsimp only; split
      · exact (fixed_fire s _ _).trans (fixed_of_eq rfl rfl rfl rfl rfl rfl rfl rfl rfl rfl rfl rfl)
      · exact fixed_fire s _ _
    · exact .refl s
  · split
    · exact fixed_frameEvent s _
    · exact .refl s

theorem fixed_hdmaByte (s : State) : SameMachine s s.hdmaByte := by
  have r : SameMachine s (s.hdmaRead s.hdma.src).2 := by
    unfold State.hdmaRead; split
    · exact .refl s
    · exact fixed_resolveRead s _
  exact r.trans (fixed_of_eq rfl rfl rfl rfl rfl rfl rfl rfl rfl rfl rfl rfl)

theorem fixed_hdmaBytes (s : State) (n : Nat) : SameMachine s (s.hdmaBytes n) := by
  induction n with
  | zero => exact .refl s
  | succ n ih => rw [State.hdmaBytes]; exact ih.trans (fixed_hdmaByte _)

theorem fixed_addStall (s : State) (n : BitVec 16) : SameMachine s (s.addStall n) := fixed_cpu s _

theorem fixed_hdmaBlock (s : State) : SameMachine s s.hdmaBlock := by
  rw [State.hdmaBlock]; exact (fixed_hdmaBytes s 16).trans (fixed_addStall _ _)

theorem fixed_hdmaBlocks (s : State) (n : Nat) : SameMachine s (s.hdmaBlocks n) := by
  induction n with
  | zero => exact .refl s
  | succ n ih => rw [State.hdmaBlocks]; exact ih.trans (fixed_hdmaBlock _)

theorem fixed_hdmaGeneral (s : State) : SameMachine s s.hdmaGeneral :=
  SameMachine.trans (t := { s with hdma := { s.hdma with pending := 0 } })
    (fixed_of_eq rfl rfl rfl rfl rfl rfl rfl rfl rfl rfl rfl rfl) (fixed_hdmaBlocks _ _)

theorem fixed_hblankPhase (s : State) : SameMachine s s.hblankPhase := by
  unfold State.hblankPhase; split
  · exact SameMachine.trans
      (t := { s with hdma := { s.hdma with active := decide (1 < s.hdma.blocks), blocks := s.hdma.blocks - 1 } })
      (fixed_of_eq rfl rfl rfl rfl rfl rfl rfl rfl rfl rfl rfl rfl) (fixed_hdmaBlock _)
  · exact .refl s

theorem fixed_rtcPhase (s : State) : SameMachine s s.rtcPhase := by
  unfold State.rtcPhase; split
  · exact fixed_of_eq rfl rfl rfl rfl rfl rfl rfl rfl rfl rfl rfl rfl
  · exact .refl s

theorem fixed_samplePhase (s : State) : SameMachine s s.samplePhase := by
  unfold State.samplePhase; split
  · exact fixed_of_eq rfl rfl rfl rfl rfl rfl rfl rfl rfl rfl rfl rfl
  · exact .refl s

theorem fixed_baseTick (s : State) : SameMachine s s.baseTick := by
  have stat : ∀ t : State, SameMachine t t.statPhase := fun _ => fixed_of_eq rfl rfl rfl rfl rfl rfl rfl rfl rfl rfl rfl rfl
  have adv : ∀ t : State, SameMachine t t.advanceLine := fun _ => fixed_of_eq rfl rfl rfl rfl rfl rfl rfl rfl rfl rfl rfl rfl
  have cnt : ∀ t : State, SameMachine t t.countTick := fun _ => fixed_of_eq rfl rfl rfl rfl rfl rfl rfl rfl rfl rfl rfl rfl
  exact (((((fixed_linePhase s).trans (stat _)).trans (fixed_hblankPhase _)).trans (adv _)).trans (fixed_rtcPhase _)).trans
    ((fixed_samplePhase _).trans (cnt _))

theorem fixed_basePhase (s : State) : SameMachine s s.basePhase := by
  have h := (fixed_baseTick s).trans (fixed_baseTick _)
  unfold State.basePhase; split
  · exact h
  · exact h.trans ((fixed_baseTick _).trans (fixed_baseTick _))

/-- The device phase of an M-cycle changes none of these parts. -/
theorem fixed_deviceCycle (s : State) (b : Bool) : SameMachine s (s.deviceCycle b) := by
  have tp : SameMachine s (s.timerPhase b) := fixed_of_eq rfl rfl rfl rfl rfl rfl rfl rfl rfl rfl rfl rfl
  have cc : ∀ t : State, SameMachine t t.countCycle := fun _ => fixed_of_eq rfl rfl rfl rfl rfl rfl rfl rfl rfl rfl rfl rfl
  exact ((((tp.trans (fixed_oamDmaPhase _)).trans (fixed_serialPhase _)).trans (fixed_basePhase _)).trans (cc _)).trans
    (fixed_hdmaGeneral _)

/-! The CPU primitives. -/

theorem fixed_internal (s : State) : SameMachine s s.internal := fixed_deviceCycle s true

theorem fixed_internals (s : State) (n : Nat) : SameMachine s (s.internals n) := by
  induction n generalizing s with
  | zero => exact .refl s
  | succ n ih => exact (fixed_internal s).trans (ih _)

theorem fixed_memRead (s : State) (a : Addr) : SameMachine s (s.memRead a).2 :=
  (((fixed_fire s _ _).trans (fixed_codeData _ a .data)).trans (fixed_cpuRead _ a)).trans (fixed_deviceCycle _ true)

theorem fixed_memWrite (s : State) (a : Addr) (v : Byte) : SameMachine s (s.memWrite a v) :=
  (((fixed_fire s _ _).trans (fixed_codeData _ a .data)).trans (fixed_cpuWrite _ a v)).trans (fixed_deviceCycle _ true)

theorem fixed_fetchOp (s : State) : SameMachine s s.fetchOp.2 := by
  have n : ∀ t : State, SameMachine t t.nextPc := by
    intro t; unfold State.nextPc; split <;> exact fixed_cpu t _
  exact ((((fixed_fire s _ _).trans (fixed_codeData _ s.cpu.pc .execOpcode)).trans (fixed_checkBreakpoint _ _)).trans
    ((fixed_cpuRead s.opcodeHooks s.cpu.pc).trans (n _))).trans (fixed_deviceCycle _ true)

theorem fixed_fetchImm (s : State) : SameMachine s s.fetchImm.2 :=
  (((fixed_codeData s s.cpu.pc .execOperand).trans (fixed_cpuRead _ s.cpu.pc)).trans (fixed_cpu _ _)).trans (fixed_deviceCycle _ true)

theorem fixed_fetchImms (s : State) (n : Nat) : SameMachine s (s.fetchImms n).2 := by
  induction n generalizing s with
  | zero => exact .refl s
  | succ n ih => exact (fixed_fetchImm s).trans (ih _)

theorem fixed_lowFirst (s : State) (op lo : Byte) : SameMachine s (s.lowFirst op lo) := by
  unfold State.lowFirst; split
  · exact fixed_cpu s _
  · exact .refl s

theorem fixed_fetchOperands (s : State) (op : Byte) (n : Nat) : SameMachine s (s.fetchOperands op n).2 := by
  cases n with
  | zero => exact .refl s
  | succ n => exact ((fixed_fetchImm s).trans (fixed_lowFirst _ _ _)).trans (fixed_fetchImms _ n)

theorem fixed_fetchInstr (s : State) : SameMachine s s.fetchInstr.2 := (fixed_fetchOp s).trans (fixed_fetchOperands _ _ _)

theorem fixed_startInstr (s : State) : SameMachine s s.startInstr := (fixed_cpu s _).trans (fixed_fire _ _ _)

theorem fixed_pushByte (s : State) (v : Byte) : SameMachine s (s.pushByte v) := (fixed_cpu s _).trans (fixed_memWrite _ _ _)

theorem fixed_pushWord (s : State) (v : Addr) : SameMachine s (s.pushWord v) := (fixed_pushByte s _).trans (fixed_pushByte _ _)

theorem fixed_popByte (s : State) : SameMachine s s.popByte.2 := (fixed_memRead s _).trans (fixed_cpu _ _)

theorem fixed_popWord (s : State) : SameMachine s s.popWord.2 := (fixed_popByte s).trans (fixed_popByte _)

theorem fixed_jump (s : State) (a : Addr) : SameMachine s (s.jump a) := (fixed_internal s).trans (fixed_cpu _ _)

theorem fixed_call (s : State) (a : Addr) : SameMachine s (s.call a) :=
  ((fixed_internal s).trans (fixed_pushWord _ _)).trans (fixed_cpu _ _)

theorem fixed_ret (s : State) : SameMachine s s.ret := (fixed_popWord s).trans (fixed_jump _ _)

theorem fixed_interruptReturn (s : State) : SameMachine s s.interruptReturn := (fixed_ret s).trans (fixed_cpu _ _)

theorem fixed_dispatch (s : State) : SameMachine s s.dispatch := by
  have e : SameMachine s s.dispatchEntry := (fixed_cpu s _).trans ((fixed_internal _).trans (fixed_internal _))
  have a : ∀ (t : State) (w : Option Nat), SameMachine t (t.acknowledge w) := by
    intro t w; cases w <;> exact fixed_of_eq rfl rfl rfl rfl rfl rfl rfl rfl rfl rfl rfl rfl
  exact (((e.trans (fixed_pushByte _ _)).trans (fixed_pushByte _ _)).trans (a _ _)).trans (fixed_jump _ _)

theorem fixed_stallCycle (s : State) : SameMachine s s.stallCycle := (fixed_deviceCycle s _).trans (fixed_cpu _ _)

theorem fixed_stopCycle (s : State) : SameMachine s s.stopCycle :=
  ((fixed_pollInput s).trans (fixed_deviceCycle _ false)).trans (fixed_cpu _ _)

theorem fixed_haltWake (s : State) : SameMachine s s.haltWake := (fixed_cpu s _).trans (fixed_internals _ _)

theorem fixed_readOperand (s : State) (o : Operand8) : SameMachine s (s.readOperand o).2 := by
  cases o
  · exact .refl s
  · exact fixed_memRead s _

theorem fixed_writeOperand (s : State) (o : Operand8) (v : Byte) : SameMachine s (s.writeOperand o v) := by
  cases o
  · exact fixed_cpu s _
  · exact fixed_memWrite s _ _

end Sys2Proof.Machine
end

