-- ==== Sys2Proof/Laws/Hits.lean ====
section
/-! SUPPORT. Only an opcode fetch records a breakpoint hit and asks to stop (60_exceptions.md R241), when the host makes no calls from
hooks. -/

namespace Sys2Proof.Machine

/-- The breakpoint hit and the stop request are kept, and so is a host without replies. -/
structure SameHit (s t : State) : Prop where
  hit : t.host.hitAddress = s.host.hitAddress
  stop : t.host.stopRequested = s.host.stopRequested
  replies : s.host.replies = [] → t.host.replies = []

theorem SameHit.refl (s : State) : SameHit s s := ⟨rfl, rfl, id⟩

theorem SameHit.trans {s t u : State} (h : SameHit s t) (k : SameHit t u) : SameHit s u :=
  ⟨k.1.trans h.1, k.2.trans h.2, k.3 ∘ h.3⟩

theorem hit_fire {s : State} (h : s.host.replies = []) (b : Bool) (c : HookCall) : SameHit s (s.fire b c) := by
  unfold State.fire; split
  · unfold State.callHook; rw [h]; exact ⟨rfl, rfl, fun _ => h⟩
  · exact .refl s

theorem hit_resolveRead (s : State) (a : Addr) : SameHit s (s.resolveRead a).2 := by
  unfold State.resolveRead; split
  · split
    · unfold State.bootRead; split <;> exact ⟨rfl, rfl, id⟩
    · unfold State.romRead; split <;> exact ⟨rfl, rfl, id⟩
  · exact ⟨rfl, rfl, id⟩
  · unfold State.cartRead; split <;> exact ⟨rfl, rfl, id⟩
  all_goals exact ⟨rfl, rfl, id⟩

theorem hit_poll {s : State} (h : s.host.replies = []) : SameHit s s.pollInput := by
  unfold State.pollInput; split
  · unfold State.callHook; rw [h]; exact ⟨rfl, rfl, fun _ => h⟩
  · exact ⟨rfl, rfl, id⟩

theorem hit_cpuRead {s : State} (h : s.host.replies = []) (a : Addr) : SameHit s (s.cpuRead a).2 := by
  unfold State.cpuRead; split
  · exact ⟨rfl, rfl, id⟩
  · split
    · exact (hit_poll h).trans (hit_resolveRead _ _)
    · exact hit_resolveRead _ _

theorem hit_hdmaByte (s : State) : SameHit s s.hdmaByte := by
  have r : SameHit s (s.hdmaRead s.hdma.src).2 := by
    unfold State.hdmaRead; split
    · exact .refl s
    · exact hit_resolveRead _ _
  exact r.trans ⟨rfl, rfl, id⟩

theorem hit_hdmaBytes (s : State) (n : Nat) : SameHit s (s.hdmaBytes n) := by
  induction n with
  | zero => exact .refl s
  | succ n ih => rw [State.hdmaBytes]; exact ih.trans (hit_hdmaByte _)

theorem hit_hdmaBlock (s : State) : SameHit s s.hdmaBlock := by
  have k : ∀ (t : State) n, SameHit t (t.addStall n) := fun _ _ => ⟨rfl, rfl, id⟩
  rw [State.hdmaBlock]; exact (hit_hdmaBytes s 16).trans (k _ _)

theorem hit_hdmaBlocks (s : State) (n : Nat) : SameHit s (s.hdmaBlocks n) := by
  induction n with
  | zero => exact .refl s
  | succ n ih => rw [State.hdmaBlocks]; exact ih.trans (hit_hdmaBlock _)

theorem hit_hdmaGeneral (s : State) : SameHit s s.hdmaGeneral :=
  SameHit.trans (t := { s with hdma := { s.hdma with pending := 0 } }) ⟨rfl, rfl, id⟩ (hit_hdmaBlocks _ _)

theorem hit_hblankPhase (s : State) : SameHit s s.hblankPhase := by
  unfold State.hblankPhase; split
  · exact SameHit.trans
      (t := { s with hdma := { s.hdma with active := decide (1 < s.hdma.blocks), blocks := s.hdma.blocks - 1 } })
      ⟨rfl, rfl, id⟩ (hit_hdmaBlock _)
  · exact .refl s

theorem hit_linePhase {s : State} (h : s.host.replies = []) : SameHit s s.linePhase := by
  unfold State.linePhase; split
  · split
    · unfold State.startLine; dsimp only; split
      · exact (hit_fire h _ _).trans ⟨rfl, rfl, id⟩
      · exact hit_fire h _ _
    · exact .refl s
  · split
    · exact ⟨rfl, rfl, id⟩
    · exact .refl s

theorem hit_baseTick {s : State} (h : s.host.replies = []) : SameHit s s.baseTick := by
  have rtc : ∀ t : State, SameHit t t.rtcPhase := by
    intro t; unfold State.rtcPhase; split
    · exact ⟨rfl, rfl, id⟩
    · exact .refl t
  have sample : ∀ t : State, SameHit t t.samplePhase := by
    intro t; unfold State.samplePhase; split
    · exact ⟨rfl, rfl, id⟩
    · exact .refl t
  have stat : ∀ t : State, SameHit t t.statPhase := fun _ => ⟨rfl, rfl, id⟩
  have adv : ∀ t : State, SameHit t t.advanceLine := fun _ => ⟨rfl, rfl, id⟩
  have cnt : ∀ t : State, SameHit t t.countTick := fun _ => ⟨rfl, rfl, id⟩
  exact (((((hit_linePhase h).trans (stat _)).trans (hit_hblankPhase _)).trans (adv _)).trans (rtc _)).trans
    ((sample _).trans (cnt _))

theorem hit_basePhase {s : State} (h : s.host.replies = []) : SameHit s s.basePhase := by
  have a := hit_baseTick h
  have b := a.trans (hit_baseTick (a.replies h))
  have c := b.trans (hit_baseTick (b.replies h))
  have d := c.trans (hit_baseTick (c.replies h))
  unfold State.basePhase; split
  · exact b
  · exact d

theorem hit_oamDmaPhase (s : State) : SameHit s s.oamDmaPhase := by
  unfold State.oamDmaPhase; split
  · exact ⟨rfl, rfl, id⟩
  · split
    · exact (hit_resolveRead _ _).trans ⟨rfl, rfl, id⟩
    · exact .refl s
/-- Phases 3 and 4 of an M-cycle record no hit. -/
theorem hit_deviceCycle {s : State} (h : s.host.replies = []) (b : Bool) : SameHit s (s.deviceCycle b) := by
  have t : SameHit s (s.timerPhase b) := ⟨rfl, rfl, id⟩
  have o := t.trans (hit_oamDmaPhase _)
  have v : SameHit s (s.timerPhase b).oamDmaPhase.advanceSerial := o.trans ⟨rfl, rfl, id⟩
  have e := v.trans (hit_fire (v.replies h)
    ((s.timerPhase b).oamDmaPhase.serial.completes (s.timerPhase b).oamDmaPhase.host.peer &&
      (s.timerPhase b).oamDmaPhase.host.hooks.linkByte) .linkByte)
  have g := e.trans (hit_basePhase (e.replies h))
  have c : ∀ t : State, SameHit t t.countCycle := fun _ => ⟨rfl, rfl, id⟩
  exact (g.trans (c _)).trans (hit_hdmaGeneral _)

theorem hit_codeData {s : State} (h : s.host.replies = []) (a : Addr) (k : CdlFlag) : SameHit s (s.codeData a k) := hit_fire h _ _

theorem hit_setRamByte (s : State) (k : Store) (o : Nat) (v : Byte) : SameHit s (s.setRamByte k o v) := by
  cases k <;> exact ⟨rfl, rfl, id⟩

theorem hit_cartWrite (s : State) (a : Addr) (v : Byte) : SameHit s (s.cartWrite a v) := by
  unfold State.cartWrite; dsimp only; split
  · exact SameHit.trans (t := s.noteCart v) ⟨rfl, rfl, id⟩ (hit_setRamByte _ _ _ _)
  · exact SameHit.trans (t := s.noteCart v) ⟨rfl, rfl, id⟩ (hit_setRamByte _ _ _ _)
  · exact ⟨rfl, rfl, id⟩
  · exact ⟨rfl, rfl, id⟩

theorem hit_resolveWrite (s : State) (a : Addr) (v : Byte) : SameHit s (s.resolveWrite a v) := by
  unfold State.resolveWrite; split
  · exact .refl s
  · split
    · exact ⟨rfl, rfl, id⟩
    · exact ⟨rfl, rfl, id⟩
    · exact hit_cartWrite s _ _
    · exact hit_setRamByte s _ _ _
    · exact ⟨rfl, rfl, id⟩
    · exact .refl s
    · rename_i r _; cases r <;> exact ⟨rfl, rfl, id⟩
    · exact hit_setRamByte s _ _ _
    · exact ⟨rfl, rfl, id⟩

theorem hit_cpuWrite {s : State} (h : s.host.replies = []) (a : Addr) (v : Byte) : SameHit s (s.cpuWrite a v) := by
  have w := hit_resolveWrite s a v
  unfold State.cpuWrite; split
  · exact w.trans (hit_poll (w.replies h))
  · exact w

/-- A data read records no hit. -/
theorem hit_memRead {s : State} (h : s.host.replies = []) (a : Addr) : SameHit s (s.memRead a).2 := by
  have x := hit_fire h s.host.hooks.read (.read a s.hookOffset)
  have y := x.trans (hit_codeData (x.replies h) a .data)
  have z := y.trans (hit_cpuRead (y.replies h) a)
  exact z.trans (hit_deviceCycle (z.replies h) true)

/-- A data write records no hit. -/
theorem hit_memWrite {s : State} (h : s.host.replies = []) (a : Addr) (v : Byte) : SameHit s (s.memWrite a v) := by
  have x := hit_fire h s.host.hooks.write (.write a s.hookOffset)
  have y := x.trans (hit_codeData (x.replies h) a .data)
  have z := y.trans (hit_cpuWrite (y.replies h) a v)
  exact z.trans (hit_deviceCycle (z.replies h) true)

/-- An operand fetch records no hit. -/
theorem hit_fetchImm {s : State} (h : s.host.replies = []) : SameHit s s.fetchImm.2 := by
  have y := hit_codeData h s.cpu.pc .execOperand
  have z := y.trans (hit_cpuRead (y.replies h) s.cpu.pc)
  have w : SameHit s (((s.codeData s.cpu.pc .execOperand).cpuRead s.cpu.pc).2.setPc (s.cpu.pc + 1)) := z.trans ⟨rfl, rfl, id⟩
  exact w.trans (hit_deviceCycle (w.replies h) true)

/-- A hook call of a host without replies keeps the breakpoint set and every active bank that a rule gives. -/
theorem hooks_fire {s : State} (h : s.host.replies = []) (b : Bool) (c : HookCall) :
    (s.fire b c).host.breakpoints = s.host.breakpoints ∧ (s.fire b c).cart = s.cart ∧
    ∀ a, (0xA000 ≤ a.toNat → a.toNat < 0xC000 → s.cart.ramBank ≠ none) → (s.fire b c).activeBank a = s.activeBank a := by
  unfold State.fire; split
  · unfold State.callHook; rw [h]
    refine ⟨rfl, rfl, fun a k => ?_⟩
    unfold State.activeBank State.ramBank; dsimp only
    split
    · rfl
    · split
      · rfl
      · split
        · rename_i w
          obtain ⟨n, hn⟩ := Option.ne_none_iff_exists'.1 (k w.1 w.2)
          show s.cart.ramBank.getD _ = s.cart.ramBank.getD _
          rw [hn]; rfl
        · rfl
  · exact ⟨rfl, rfl, fun _ _ => rfl⟩

end Sys2Proof.Machine
end

