-- ==== Sys2Proof/Laws/Latches.lean ====
section
/-! SUPPORT. The latches and F: which instructions write IME, the EI delay and the other latches (10_state.md R36, R37, R40), and that
bits 3:0 of F stay 0 (R34). -/

namespace Sys2Proof.Machine

/-- The latches are kept, and bits 3:0 of F stay 0. -/
structure SameLatches (c d : Cpu) : Prop where
  ime : d.ime = c.ime
  imePending : d.imePending = c.imePending
  imeBefore : d.imeBefore = c.imeBefore
  halted : d.halted = c.halted
  haltBug : d.haltBug = c.haltBug
  stopped : d.stopped = c.stopped
  lockedUp : d.lockedUp = c.lockedUp
  flags : c.f &&& 0x0F = 0 → d.f &&& 0x0F = 0

theorem SameLatches.refl (c : Cpu) : SameLatches c c := ⟨rfl, rfl, rfl, rfl, rfl, rfl, rfl, id⟩

theorem SameLatches.of_eq {c d : Cpu} (h : d = c) : SameLatches c d := h ▸ .refl c

theorem SameLatches.trans {c d e : Cpu} (h : SameLatches c d) (k : SameLatches d e) : SameLatches c e :=
  ⟨k.1.trans h.1, k.2.trans h.2, k.3.trans h.3, k.4.trans h.4, k.5.trans h.5, k.6.trans h.6, k.7.trans h.7, k.8 ∘ h.8⟩

theorem low_flags (v : Byte) : (v &&& 0xF0) &&& 0x0F = 0 := by
  rw [BitVec.and_assoc]; exact BitVec.and_zero

theorem latches_setFlags (c : Cpu) (v : Byte) : SameLatches c (c.setFlags v) :=
  ⟨rfl, rfl, rfl, rfl, rfl, rfl, rfl, fun _ => low_flags v⟩

theorem latches_setReg (c : Cpu) (r : Reg8) (v : Byte) : SameLatches c (c.setReg r v) := by
  cases r <;> exact ⟨rfl, rfl, rfl, rfl, rfl, rfl, rfl, id⟩

theorem latches_setPair (c : Cpu) (p : Pair) (v : Addr) : SameLatches c (c.setPair p v) := by
  cases p <;> exact ⟨rfl, rfl, rfl, rfl, rfl, rfl, rfl, id⟩

theorem latches_setStackPair (c : Cpu) (q : StackPair) (v : Addr) : SameLatches c (c.setStackPair q v) := by
  cases q
  · exact latches_setPair c .bc v
  · exact latches_setPair c .de v
  · exact latches_setPair c .hl v
  · exact (latches_setReg c .a _).trans (latches_setFlags _ _)

theorem latches_pc (c : Cpu) (v : Addr) : SameLatches c { c with pc := v } := ⟨rfl, rfl, rfl, rfl, rfl, rfl, rfl, id⟩

theorem latches_sp (c : Cpu) (v : Addr) : SameLatches c { c with sp := v } := ⟨rfl, rfl, rfl, rfl, rfl, rfl, rfl, id⟩

theorem latches_readOperand (s : State) (o : Operand8) : SameLatches s.core (s.readOperand o).2.core := by
  cases o
  · exact .refl _
  · exact .of_eq (memRead_core s _)

theorem latches_writeOperand (s : State) (o : Operand8) (v : Byte) : SameLatches s.core (s.writeOperand o v).core := by
  cases o
  · exact .trans (latches_setReg s.core _ v) (.of_eq (setReg_core s _ v))
  · exact .of_eq (memWrite_core s _ _)

theorem latches_flagsOf (s : State) (r : Alu) : SameLatches s.core (s.flagsOf r).core := latches_setFlags s.core _

theorem latches_setRegState (s : State) (r : Reg8) (v : Byte) : SameLatches s.core (s.setReg r v).core :=
  .trans (latches_setReg s.core r v) (.of_eq (setReg_core s r v))

theorem latches_setPairState (s : State) (p : Pair) (v : Addr) : SameLatches s.core (s.setPair p v).core :=
  .trans (latches_setPair s.core p v) (.of_eq (setPair_core s p v))

theorem latches_jump (s : State) (a : Addr) : SameLatches s.core (s.jump a).core := by
  rw [jump_core]; exact latches_pc _ _

theorem latches_call (s : State) (a : Addr) : SameLatches s.core (s.call a).core := by
  rw [call_core]; exact ⟨rfl, rfl, rfl, rfl, rfl, rfl, rfl, id⟩

theorem latches_ret (s : State) : SameLatches s.core s.ret.core := by
  rw [ret_core]; exact ⟨rfl, rfl, rfl, rfl, rfl, rfl, rfl, id⟩

/-- The instructions that write latches. -/
inductive WritesLatches : Instr → Prop where
  | di : WritesLatches .di
  | ei : WritesLatches .ei
  | reti : WritesLatches .reti
  | halt : WritesLatches .halt
  | stop (n : Byte) : WritesLatches (.stop n)
  | illegal (k : IllegalOp) : WritesLatches (.illegal k)

/-- Every other instruction keeps every latch. -/
theorem exec_latches (i : Instr) (s : State) : WritesLatches i ∨ ∃ t, exec i s = .next t ∧ SameLatches s.core t.core := by
  have load : ∀ (r : Reg8) (a : Addr), SameLatches s.core (s.loadFrom r a).core := fun r a =>
    (SameLatches.of_eq (memRead_core s a)).trans (latches_setRegState _ r _)
  have store : ∀ (a : Addr) (v : Byte), SameLatches s.core (s.storeAt a v).core := fun a v => .of_eq (memWrite_core s a v)
  have modify : ∀ (o : Operand8) (f : Byte → Byte) (r : Byte → Alu),
      SameLatches s.core (((s.readOperand o).2.writeOperand o (f (s.readOperand o).1)).flagsOf (r (s.readOperand o).1)).core :=
    fun o f r => ((latches_readOperand s o).trans (latches_writeOperand _ o _)).trans (latches_flagsOf _ _)
  have write : ∀ (o : Operand8) (f : Byte → Byte),
      SameLatches s.core ((s.readOperand o).2.writeOperand o (f (s.readOperand o).1)).core :=
    fun o f => (latches_readOperand s o).trans (latches_writeOperand _ o _)
  have inner : SameLatches s.core s.internal.core := .of_eq (internal_core s)
  induction i using Laws.instr_cases with
  | di_ => exact .inl .di
  | ei_ => exact .inl .ei
  | reti_ => exact .inl .reti
  | halt_ => exact .inl .halt
  | stop_ n => exact .inl (.stop n)
  | illegal_ k => exact .inl (.illegal k)
  | ldReg_ dst src => exact .inr ⟨_, exec_ldReg dst src s, latches_setRegState s _ _⟩
  | ldImm_ dst n => exact .inr ⟨_, exec_ldImm dst n s, latches_setRegState s _ _⟩
  | ldFromHL_ dst => exact .inr ⟨_, exec_ldFromHL dst s, load _ _⟩
  | ldToHL_ r => exact .inr ⟨_, exec_ldToHL r s, store _ _⟩
  | ldPair_ p nn => exact .inr ⟨_, exec_ldPair p nn s, latches_setPairState s _ _⟩
  | push_ q => exact .inr ⟨_, exec_push q s, inner.trans (by rw [State.pushPair, pushWord_core]; exact latches_sp _ _)⟩
  | pop_ q =>
    refine .inr ⟨_, exec_pop q s, .trans (d := s.popWord.2.core) (by rw [popWord_core]; exact latches_sp _ _) ?_⟩
    rw [State.popPair, setStackPair_core]; exact latches_setStackPair _ _ _
  | alu_ op v =>
    exact .inr ⟨_, exec_alu op v s, ((latches_readOperand s v).trans (latches_setRegState _ .a _)).trans (latches_flagsOf _ _)⟩
  | aluImm_ op n => exact .inr ⟨_, exec_aluImm op n s, (latches_setRegState s .a _).trans (latches_flagsOf _ _)⟩
  | inc_ v => exact .inr ⟨_, exec_inc v s, modify v (fun b => (incResult b s.flagC).value) (fun b => incResult b s.flagC)⟩
  | dec_ v => exact .inr ⟨_, exec_dec v s, modify v (fun b => (decResult b s.flagC).value) (fun b => decResult b s.flagC)⟩
  | addHL_ p =>
    exact .inr ⟨_, exec_addHL p s, (inner.trans (latches_setPairState _ .hl _)).trans (latches_setFlags _ _)⟩
  | incPair_ p => exact .inr ⟨_, exec_incPair p s, inner.trans (latches_setPairState _ _ _)⟩
  | decPair_ p => exact .inr ⟨_, exec_decPair p s, inner.trans (latches_setPairState _ _ _)⟩
  | shift_ op v =>
    exact .inr ⟨_, exec_shift op v s, modify v (fun b => (shiftResult op b s.flagC).value) (fun b => shiftResult op b s.flagC)⟩
  | bit_ b v => exact .inr ⟨_, exec_bit b v s, (latches_readOperand s v).trans (latches_flagsOf _ _)⟩
  | res_ b v => exact .inr ⟨_, exec_res b v s, write v (resetBit (index3 b))⟩
  | set_ b v => exact .inr ⟨_, exec_set b v s, write v (setBit (index3 b))⟩
  | jpCond_ cc nn => exact .inr ⟨_, exec_jpCond cc nn s, by split; exact latches_jump s nn; exact .refl _⟩
  | jrCond_ cc e => exact .inr ⟨_, exec_jrCond cc e s, by split; exact latches_jump s _; exact .refl _⟩
  | callCond_ cc nn => exact .inr ⟨_, exec_callCond cc nn s, by split; exact latches_call s nn; exact .refl _⟩
  | retCond_ cc =>
    refine .inr ⟨_, exec_retCond cc s, ?_⟩
    unfold State.retCond; split
    · exact inner.trans (latches_ret _)
    · exact inner
  | rst_ t => exact .inr ⟨_, exec_rst t s, latches_call s _⟩
  | ldAtImm16SP_ nn => exact .inr ⟨_, rfl, (store _ _).trans (.of_eq (memWrite_core _ _ _))⟩
  | jrDisp_ e => exact .inr ⟨_, rfl, latches_jump s _⟩
  | ldAtHLImm_ n => exact .inr ⟨_, rfl, store _ _⟩
  | jpImm16_ nn => exact .inr ⟨_, rfl, latches_jump s nn⟩
  | callImm16_ nn => exact .inr ⟨_, rfl, latches_call s nn⟩
  | ldhAtImmA_ n => exact .inr ⟨_, rfl, store _ _⟩
  | addSPDisp_ e =>
    exact .inr ⟨_, rfl, ((inner.trans (.of_eq (internal_core _))).trans (latches_sp _ _)).trans (latches_setFlags _ _)⟩
  | ldAtImm16A_ nn => exact .inr ⟨_, rfl, store _ _⟩
  | ldhAAtImm_ n => exact .inr ⟨_, rfl, load _ _⟩
  | ldHLSPDisp_ e => exact .inr ⟨_, rfl, (inner.trans (latches_setPairState _ .hl _)).trans (latches_setFlags _ _)⟩
  | ldAAtImm16_ nn => exact .inr ⟨_, rfl, load _ _⟩
  | nop_ => exact .inr ⟨_, rfl, .refl _⟩
  | ldAtBCA_ => exact .inr ⟨_, rfl, store _ _⟩
  | rlca_ => exact .inr ⟨_, rfl, (latches_setRegState s .a _).trans (latches_flagsOf _ _)⟩
  | ldAAtBC_ => exact .inr ⟨_, rfl, load _ _⟩
  | rrca_ => exact .inr ⟨_, rfl, (latches_setRegState s .a _).trans (latches_flagsOf _ _)⟩
  | ldAtDEA_ => exact .inr ⟨_, rfl, store _ _⟩
  | rla_ => exact .inr ⟨_, rfl, (latches_setRegState s .a _).trans (latches_flagsOf _ _)⟩
  | ldAAtDE_ => exact .inr ⟨_, rfl, load _ _⟩
  | rra_ => exact .inr ⟨_, rfl, (latches_setRegState s .a _).trans (latches_flagsOf _ _)⟩
  | ldAtHLIncA_ => exact .inr ⟨_, rfl, (store _ _).trans (latches_setPairState _ .hl _)⟩
  | daa_ => exact .inr ⟨_, rfl, (latches_setRegState s .a _).trans (latches_flagsOf _ _)⟩
  | ldAAtHLInc_ => exact .inr ⟨_, rfl, (load .a _).trans (latches_setPairState _ .hl _)⟩
  | cpl_ => exact .inr ⟨_, rfl, (latches_setRegState s .a _).trans (latches_setFlags _ _)⟩
  | ldAtHLDecA_ => exact .inr ⟨_, rfl, (store _ _).trans (latches_setPairState _ .hl _)⟩
  | scf_ => exact .inr ⟨_, rfl, latches_setFlags s.core _⟩
  | ldAAtHLDec_ => exact .inr ⟨_, rfl, (load .a _).trans (latches_setPairState _ .hl _)⟩
  | ccf_ => exact .inr ⟨_, rfl, latches_setFlags s.core _⟩
  | ret_ => exact .inr ⟨_, rfl, latches_ret s⟩
  | ldAtCA_ => exact .inr ⟨_, rfl, store _ _⟩
  | jpHL_ => exact .inr ⟨_, rfl, latches_pc s.core _⟩
  | ldAAtC_ => exact .inr ⟨_, rfl, load _ _⟩
  | ldSPHL_ => exact .inr ⟨_, rfl, inner.trans (latches_sp _ _)⟩

end Sys2Proof.Machine
end

