-- ==== Sys2Proof/Laws/Meaning.lean ====
section
/-! SUPPORT. What every meaning does: it answers a next state, after as many M-cycles as the table says, keeps the data invariant and
the parts of the machine that no step changes. -/

namespace Sys2Proof.Machine

/-- `t` is `s` after `n` M-cycles; the data invariant holds if it held; the fixed parts are kept. -/
structure Progress (n : Nat) (s t : State) : Prop where
  ticks : Ticks n s t
  data : s.DataInv → t.DataInv
  fixed : SameMachine s t

theorem Progress.refl (s : State) : Progress 0 s s := ⟨.refl s, id, .refl s⟩

theorem Progress.trans {m n : Nat} {s t u : State} (h : Progress m s t) (k : Progress n t u) : Progress (m + n) s u :=
  ⟨h.ticks.trans k.ticks, k.data ∘ h.data, h.fixed.trans k.fixed⟩

/-- An update of the CPU takes no time. -/
theorem progress_cpu (s : State) (c : Cpu) : Progress 0 s { s with cpu := c } :=
  ⟨(noTime_cpu s c).ticks, fun d => data_cpu d c, fixed_cpu s c⟩

theorem Progress.after {n : Nat} {s t : State} (h : Progress n s t) (c : Cpu) : Progress n s { t with cpu := c } :=
  h.trans (progress_cpu t c)

theorem progress_internal (s : State) : Progress 1 s s.internal := ⟨ticks_internal s, data_internal, fixed_internal s⟩

theorem progress_memRead (s : State) (a : Addr) : Progress 1 s (s.memRead a).2 :=
  ⟨ticks_memRead s a, fun d => data_memRead d a, fixed_memRead s a⟩

theorem progress_memWrite (s : State) (a : Addr) (v : Byte) : Progress 1 s (s.memWrite a v) :=
  ⟨ticks_memWrite s a v, fun d => data_memWrite d a v, fixed_memWrite s a v⟩

theorem progress_pushWord (s : State) (v : Addr) : Progress 2 s (s.pushWord v) :=
  ⟨ticks_pushWord s v, fun d => data_pushWord d v, fixed_pushWord s v⟩

theorem progress_popWord (s : State) : Progress 2 s s.popWord.2 := ⟨ticks_popWord s, data_popWord, fixed_popWord s⟩

theorem progress_jump (s : State) (a : Addr) : Progress 1 s (s.jump a) := ⟨ticks_jump s a, fun d => data_jump d a, fixed_jump s a⟩

theorem progress_call (s : State) (a : Addr) : Progress 3 s (s.call a) := ⟨ticks_call s a, fun d => data_call d a, fixed_call s a⟩

theorem progress_ret (s : State) : Progress 3 s s.ret := ⟨ticks_ret s, data_ret, fixed_ret s⟩

theorem progress_interruptReturn (s : State) : Progress 3 s s.interruptReturn :=
  ⟨ticks_interruptReturn s, data_interruptReturn, fixed_interruptReturn s⟩

theorem progress_dispatch (s : State) : Progress 5 s s.dispatch := ⟨ticks_dispatch s, data_dispatch, fixed_dispatch s⟩

theorem progress_stallCycle (s : State) : Progress 1 s s.stallCycle := ⟨ticks_stallCycle s, data_stallCycle, fixed_stallCycle s⟩

theorem progress_stopCycle (s : State) : Progress 1 s s.stopCycle := ⟨ticks_stopCycle s, data_stopCycle, fixed_stopCycle s⟩

theorem progress_haltWake (s : State) : Progress 1 s s.haltWake := ⟨ticks_haltWake s, data_haltWake, fixed_haltWake s⟩

theorem progress_startInstr (s : State) : Progress 0 s s.startInstr :=
  ⟨(noTime_startInstr s).ticks, data_startInstr, fixed_startInstr s⟩

/-- The fetches of an instruction take one M-cycle per byte. -/
theorem progress_fetchInstr (s : State) : Progress s.fetchInstr.1.length s s.fetchInstr.2 := by
  have e : s.fetchInstr.1.length = 1 + (instrLength s.fetchOp.1 - 1) := by simp [State.fetchInstr]; omega
  exact ⟨e ▸ ticks_fetchInstr s, data_fetchInstr, fixed_fetchInstr s⟩

/-- What the meaning of an instruction answers: a next state `m` M-cycles later. -/
def Meaning (i : Instr) (s : State) (m : Nat) : Prop := ∃ t, exec i s = .next t ∧ Progress m s t

theorem meaning_cpu {i : Instr} {s : State} (c : Cpu) (h : exec i s = .next { s with cpu := c }) : Meaning i s 0 :=
  ⟨_, h, progress_cpu s c⟩

theorem meaning_loadFrom {i : Instr} {s : State} (r : Reg8) (a : Addr) (h : exec i s = .next (s.loadFrom r a)) : Meaning i s 1 :=
  ⟨_, h, (progress_memRead s a).after _⟩

theorem meaning_storeAt {i : Instr} {s : State} (a : Addr) (v : Byte) (h : exec i s = .next (s.storeAt a v)) : Meaning i s 1 :=
  ⟨_, h, progress_memWrite s a v⟩

theorem meaning_jump {i : Instr} {s : State} (a : Addr) (h : exec i s = .next (s.jump a)) : Meaning i s 1 :=
  ⟨_, h, progress_jump s a⟩

theorem meaning_call {i : Instr} {s : State} (a : Addr) (h : exec i s = .next (s.call a)) : Meaning i s 3 :=
  ⟨_, h, progress_call s a⟩

theorem meaning_internal_cpu {i : Instr} {s : State} (c : Cpu) (h : exec i s = .next { s.internal with cpu := c }) : Meaning i s 1 :=
  ⟨_, h, (progress_internal s).after c⟩

/-- The M-cycles of an access to an 8-bit operand. -/
def operandCycles : Operand8 → Nat
  | .reg _ => 0
  | .atHL => 1

theorem operand_read (s : State) (o : Operand8) : Progress (operandCycles o) s (s.readOperand o).2 := by
  cases o
  · exact .refl s
  · exact progress_memRead s _

theorem operand_write (s : State) (o : Operand8) (v : Byte) : Progress (operandCycles o) s (s.writeOperand o v) := by
  cases o
  · exact progress_cpu s _
  · exact progress_memWrite s _ _

theorem meaning_alu (op : AluOp) (o : Operand8) (s : State) : Meaning (.alu op o) s (operandCycles o) :=
  ⟨_, exec_alu op o s, ((operand_read s o).after _).after _⟩

theorem meaning_modify {i : Instr} {s : State} (o : Operand8) (f : Byte → Byte) (r : Byte → Alu)
    (h : exec i s = .next (((s.readOperand o).2.writeOperand o (f (s.readOperand o).1)).flagsOf (r (s.readOperand o).1))) :
    Meaning i s (operandCycles o + operandCycles o) :=
  ⟨_, h, ((operand_read s o).trans (operand_write _ o _)).after _⟩

theorem meaning_bitWrite {i : Instr} {s : State} (o : Operand8) (f : Byte → Byte)
    (h : exec i s = .next ((s.readOperand o).2.writeOperand o (f (s.readOperand o).1))) :
    Meaning i s (operandCycles o + operandCycles o) :=
  ⟨_, h, (operand_read s o).trans (operand_write _ o _)⟩

theorem meaning_bit (b : Index3) (o : Operand8) (s : State) : Meaning (.bit b o) s (operandCycles o) :=
  ⟨_, exec_bit b o s, (operand_read s o).after _⟩

theorem meaning_branch {i : Instr} {s t : State} {n : Nat} (c : Bool) (h : exec i s = .next (if c then t else s))
    (k : Progress n s t) : Meaning i s (if c then n else 0) := by
  cases c
  · exact ⟨_, h, .refl s⟩
  · exact ⟨_, h, k⟩

theorem meaning_retCond (cc : Cond) (s : State) : Meaning (.retCond cc) s (if s.cond cc then 4 else 1) := by
  have hc := cond_core (internal_core s) cc
  refine ⟨_, exec_retCond cc s, ?_⟩
  unfold State.retCond
  rw [hc]
  cases s.cond cc
  · exact progress_internal s
  · exact (progress_internal s).trans (progress_ret _)

theorem progress_stopCpu (s : State) : Progress 0 s s.stopCpu := by
  have a : Progress 0 s s.speedSwitch :=
    ⟨NoTime.ticks (s := s) (t := s.speedSwitch) ⟨rfl, rfl, rfl, rfl, .inl rfl⟩, fun d => ⟨d.1, d.2, d.3, d.4, d.5⟩,
      fixed_of_eq rfl rfl rfl rfl rfl rfl rfl rfl rfl rfl rfl rfl⟩
  have b : Progress 0 s s.stopMode :=
    ⟨NoTime.ticks (s := s) (t := s.stopMode) ⟨rfl, rfl, rfl, rfl, .inl rfl⟩, fun d => ⟨d.1, d.2, d.3, d.4, d.5⟩,
      fixed_of_eq rfl rfl rfl rfl rfl rfl rfl rfl rfl rfl rfl rfl⟩
  unfold State.stopCpu; split
  · split
    · exact a
    · exact b
  · exact b
  · exact b

theorem meaning_halt (s : State) : Meaning .halt s 0 := by
  refine ⟨_, rfl, ?_⟩
  unfold State.haltCpu; split
  · exact progress_cpu s _
  · split
    · exact .refl s
    · exact progress_cpu s _

/-- The M-cycles of an instruction after its fetches, by the table. -/
def restCycles (taken : Cond → Bool) (i : Instr) : Nat := tableCycles taken (encode i) - (encode i).length

/-- Every instruction answers a next state after the M-cycles of the table. -/
theorem meaning (i : Instr) (s : State) : Meaning i s (restCycles s.cond i) := by
  induction i using Laws.instr_cases with
  | ldReg_ dst src => cases dst <;> cases src <;> exact meaning_cpu _ rfl
  | ldImm_ dst n => cases dst <;> exact meaning_cpu _ rfl
  | ldFromHL_ dst => cases dst <;> exact meaning_loadFrom _ _ rfl
  | ldToHL_ r => cases r <;> exact meaning_storeAt _ _ rfl
  | ldPair_ p nn => cases p <;> exact meaning_cpu _ rfl
  | push_ q =>
    have h : Meaning (.push q) s 3 :=
      ⟨_, exec_push q s, (progress_internal s).trans (progress_pushWord _ _)⟩
    cases q <;> exact h
  | pop_ q =>
    have h : Meaning (.pop q) s 2 :=
      ⟨_, exec_pop q s, (progress_popWord s).after _⟩
    cases q <;> exact h
  | alu_ op v =>
    have h := meaning_alu op v s
    cases op <;> cases v <;> first | exact h | (rename_i r; cases r <;> exact h)
  | aluImm_ op n => cases op <;> exact meaning_cpu _ rfl
  | inc_ v =>
    have h : Meaning (.inc v) s _ := meaning_modify v (fun b => (incResult b s.flagC).value) (fun b => incResult b s.flagC) (exec_inc v s)
    cases v <;> first | exact h | (rename_i r; cases r <;> exact h)
  | dec_ v =>
    have h : Meaning (.dec v) s _ := meaning_modify v (fun b => (decResult b s.flagC).value) (fun b => decResult b s.flagC) (exec_dec v s)
    cases v <;> first | exact h | (rename_i r; cases r <;> exact h)
  | addHL_ p => cases p <;> exact meaning_internal_cpu _ rfl
  | incPair_ p => cases p <;> exact meaning_internal_cpu _ rfl
  | decPair_ p => cases p <;> exact meaning_internal_cpu _ rfl
  | shift_ op v =>
    have h : Meaning (.shift op v) s _ :=
      meaning_modify v (fun b => (shiftResult op b s.flagC).value) (fun b => shiftResult op b s.flagC) (exec_shift op v s)
    cases op <;> cases v <;> first | exact h | (rename_i r; cases r <;> exact h)
  | bit_ b v =>
    have h := meaning_bit b v s
    cases b <;> cases v <;> first | exact h | (rename_i r; cases r <;> exact h)
  | res_ b v =>
    have h : Meaning (.res b v) s _ := meaning_bitWrite v (resetBit (index3 b)) (exec_res b v s)
    cases b <;> cases v <;> first | exact h | (rename_i r; cases r <;> exact h)
  | set_ b v =>
    have h : Meaning (.set b v) s _ := meaning_bitWrite v (setBit (index3 b)) (exec_set b v s)
    cases b <;> cases v <;> first | exact h | (rename_i r; cases r <;> exact h)
  | jpCond_ cc nn =>
    have h : Meaning (.jpCond cc nn) s _ := meaning_branch (s.cond cc) (exec_jpCond cc nn s) (progress_jump s nn)
    have e : restCycles s.cond (.jpCond cc nn) = if s.cond cc then 1 else 0 := by
      cases cc <;> (show (if s.cond _ = true then _ else _) - 3 = _; split <;> rfl)
    rw [e]; exact h
  | jrCond_ cc e' =>
    have h : Meaning (.jrCond cc e') s _ :=
      meaning_branch (s.cond cc) (exec_jrCond cc e' s) (progress_jump s _)
    have e : restCycles s.cond (.jrCond cc e') = if s.cond cc then 1 else 0 := by
      cases cc <;> (show (if s.cond _ = true then _ else _) - 2 = _; split <;> rfl)
    rw [e]; exact h
  | callCond_ cc nn =>
    have h : Meaning (.callCond cc nn) s _ := meaning_branch (s.cond cc) (exec_callCond cc nn s) (progress_call s nn)
    have e : restCycles s.cond (.callCond cc nn) = if s.cond cc then 3 else 0 := by
      cases cc <;> (show (if s.cond _ = true then _ else _) - 3 = _; split <;> rfl)
    rw [e]; exact h
  | retCond_ cc =>
    have e : restCycles s.cond (.retCond cc) = if s.cond cc then 4 else 1 := by
      cases cc <;> (show (if s.cond _ = true then _ else _) - 1 = _; split <;> rfl)
    rw [e]; exact meaning_retCond cc s
  | rst_ t => cases t <;> exact meaning_call _ rfl
  | illegal_ k => cases k <;> exact meaning_cpu _ rfl
  | ldAtImm16SP_ nn =>
    exact ⟨_, rfl, (progress_memWrite s _ _).trans (progress_memWrite _ _ _)⟩
  | stop_ n => exact ⟨_, rfl, progress_stopCpu s⟩
  | jrDisp_ e => exact meaning_jump _ rfl
  | ldAtHLImm_ n => exact meaning_storeAt _ _ rfl
  | jpImm16_ nn => exact meaning_jump _ rfl
  | callImm16_ nn => exact meaning_call _ rfl
  | ldhAtImmA_ n => exact meaning_storeAt _ _ rfl
  | addSPDisp_ e =>
    exact ⟨_, rfl, (((progress_internal s).trans (progress_internal _)).after _).after _⟩
  | ldAtImm16A_ nn => exact meaning_storeAt _ _ rfl
  | ldhAAtImm_ n => exact meaning_loadFrom _ _ rfl
  | ldHLSPDisp_ e => exact meaning_internal_cpu _ rfl
  | ldAAtImm16_ nn => exact meaning_loadFrom _ _ rfl
  | nop_ => exact ⟨_, rfl, .refl s⟩
  | ldAtBCA_ => exact meaning_storeAt _ _ rfl
  | rlca_ => exact meaning_cpu _ rfl
  | ldAAtBC_ => exact meaning_loadFrom _ _ rfl
  | rrca_ => exact meaning_cpu _ rfl
  | ldAtDEA_ => exact meaning_storeAt _ _ rfl
  | rla_ => exact meaning_cpu _ rfl
  | ldAAtDE_ => exact meaning_loadFrom _ _ rfl
  | rra_ => exact meaning_cpu _ rfl
  | ldAtHLIncA_ => exact ⟨_, rfl, (progress_memWrite s _ _).after _⟩
  | daa_ => exact meaning_cpu _ rfl
  | ldAAtHLInc_ =>
    exact ⟨_, rfl, ((progress_memRead s _).after _).after _⟩
  | cpl_ => exact meaning_cpu _ rfl
  | ldAtHLDecA_ => exact ⟨_, rfl, (progress_memWrite s _ _).after _⟩
  | scf_ => exact meaning_cpu _ rfl
  | ldAAtHLDec_ =>
    exact ⟨_, rfl, ((progress_memRead s _).after _).after _⟩
  | ccf_ => exact meaning_cpu _ rfl
  | halt_ => exact meaning_halt s
  | ret_ => exact ⟨_, rfl, progress_ret s⟩
  | reti_ => exact ⟨_, rfl, progress_interruptReturn s⟩
  | ldAtCA_ => exact meaning_storeAt _ _ rfl
  | jpHL_ => exact meaning_cpu _ rfl
  | ldAAtC_ => exact meaning_loadFrom _ _ rfl
  | di_ => exact meaning_cpu _ rfl
  | ldSPHL_ => exact meaning_internal_cpu _ rfl
  | ei_ => exact meaning_cpu _ rfl

end Sys2Proof.Machine
end

