-- ==== Sys2Proof/Laws/Pending.lean ====
section
/-! SUPPORT. The pending requests as the byte `IE & IF & 0x1F`, and the winner of a dispatch as its lowest set bit (60_exceptions.md
R212, R213). -/

namespace Sys2Proof.Machine

/-- The bits of IF as a byte are the requests. -/
theorem toByte_bits (q : Requests) :
    q.toByte[0] = q.vblank ∧ q.toByte[1] = q.stat ∧ q.toByte[2] = q.timer ∧ q.toByte[3] = q.serial ∧
    q.toByte[4] = q.joypad := by
  obtain ⟨a, b, c, d, e⟩ := q
  revert a b c d e
  decide

/-- The five pending requests are bits 0 to 4 of the byte. -/
theorem pendingBits_byte (s : State) :
    s.pendingBits = [bit s.pendingByte 0, bit s.pendingByte 1, bit s.pendingByte 2, bit s.pendingByte 3, bit s.pendingByte 4] := by
  obtain ⟨h0, h1, h2, h3, h4⟩ := toByte_bits s.irq
  simp [State.pendingBits, State.pendingByte, bit, h0, h1, h2, h3, h4]

/-- A request is pending just when the byte is not 0. -/
theorem pending_byte (s : State) : s.pending = decide (s.pendingByte ≠ 0) := by
  unfold State.pending
  rw [pendingBits_byte]
  unfold State.pendingByte
  generalize s.ie &&& s.irq.toByte = v
  revert v
  decide +kernel

/-- The winner is the lowest set bit of the byte. -/
theorem winner_byte (s : State) {k : Nat} (hk : k < 5) (hb : bit s.pendingByte k = true)
    (hl : ∀ j, j < k → bit s.pendingByte j = false) : lowestSet s.pendingBits = some k := by
  rw [pendingBits_byte]
  match k, hk with
  | 0, _ => rw [hb]; rfl
  | 1, _ => rw [hl 0 (by decide), hb]; rfl
  | 2, _ => rw [hl 0 (by decide), hl 1 (by decide), hb]; rfl
  | 3, _ => rw [hl 0 (by decide), hl 1 (by decide), hl 2 (by decide), hb]; rfl
  | 4, _ => rw [hl 0 (by decide), hl 1 (by decide), hl 2 (by decide), hl 3 (by decide), hb]; rfl

/-- There is no winner when the byte is 0. -/
theorem winner_none (s : State) (h : s.pendingByte = 0) : lowestSet s.pendingBits = none := by
  rw [pendingBits_byte, h]; rfl

/-- Acknowledging request k clears bit k of IF. -/
theorem clear_byte (q : Requests) (k : Nat) (hk : k < 5) : q.clear k = Requests.ofByte (q.toByte &&& ~~~(1#8 <<< k)) := by
  obtain ⟨a, b, c, d, e⟩ := q
  match k, hk with
  | 0, _ => revert a b c d e; decide
  | 1, _ => revert a b c d e; decide
  | 2, _ => revert a b c d e; decide
  | 3, _ => revert a b c d e; decide
  | 4, _ => revert a b c d e; decide

end Sys2Proof.Machine
end

