-- ==== Sys2Proof/Laws/Picture.lean ====
section
/-! SUPPORT. The frame being drawn: which layer a pixel can show under a layer mask (60_exceptions.md R233), and what a base tick and an
M-cycle of a quiet machine do to the picture and the last completed frame (R231, R234). -/

namespace Sys2Proof.Machine

theorem mem_visibleLayers {mask : BitVec 3} {n x y : Nat} {l : Layer} :
    l ∈ visibleLayers mask n x y ↔ layerEnabled mask l = true ∧ Config.drawnOpaque n x y l = true := by
  cases l <;> simp [visibleLayers]

/-- The layer on top at a pixel is one that the mask enables. -/
theorem topLayer_enabled {mask : BitVec 3} {n x y : Nat} {l : Layer} (h : topLayer mask n x y = some l) :
    layerEnabled mask l = true :=
  (mem_visibleLayers.1 (List.mem_of_getElem? h)).1

/-- The frame position, the picture, the look in force and the last completed frame are kept. -/
structure SamePicture (s t : State) : Prop where
  ppu : t.ppu = s.ppu
  model : t.model = s.model
  palettes : t.host.palettes = s.host.palettes
  layerMask : t.host.layerMask = s.host.layerMask
  picture : t.host.picture = s.host.picture
  lastFrame : t.host.lastFrame = s.host.lastFrame

theorem SamePicture.refl (s : State) : SamePicture s s := ⟨rfl, rfl, rfl, rfl, rfl, rfl⟩

theorem SamePicture.trans {s t u : State} (h : SamePicture s t) (k : SamePicture t u) : SamePicture s u :=
  ⟨k.1.trans h.1, k.2.trans h.2, k.3.trans h.3, k.4.trans h.4, k.5.trans h.5, k.6.trans h.6⟩

theorem SamePicture.look {s t : State} (h : SamePicture s t) : t.look = s.look := by
  unfold State.look; rw [h.palettes, h.layerMask]

theorem SamePicture.drawTick {s t : State} (h : SamePicture s t) : t.drawTick = s.drawTick := by
  unfold State.drawTick State.lcdOn; rw [h.look, h.picture, h.ppu]

theorem samePicture_fire {s : State} (h : s.host.replies = []) (b : Bool) (c : HookCall) : SamePicture s (s.fire b c) := by
  unfold State.fire; split
  · unfold State.callHook; rw [h]; exact ⟨rfl, rfl, rfl, rfl, rfl, rfl⟩
  · exact .refl s

theorem samePicture_rtcPhase (s : State) : SamePicture s s.rtcPhase := by
  unfold State.rtcPhase; split
  · exact ⟨rfl, rfl, rfl, rfl, rfl, rfl⟩
  · exact .refl s

theorem samePicture_samplePhase (s : State) : SamePicture s s.samplePhase := by
  unfold State.samplePhase; split
  · exact ⟨rfl, rfl, rfl, rfl, rfl, rfl⟩
  · exact .refl s

/-- A line start other than that of line 144 completes no frame. -/
theorem samePicture_startLine {s : State} (h : s.host.replies = []) {l : Nat} (k : l ≠ 144) : SamePicture s (s.startLine l) := by
  unfold State.startLine; dsimp only; rw [if_neg k]; exact samePicture_fire h _ _

/-- The frame that the start of line 144 completes. -/
theorem startLine_lastFrame {s : State} (h : s.host.replies = []) :
    (s.startLine 144).host.lastFrame = .drawn (s.startLine 144).draws s.model s.look s.host.picture := by
  have f := samePicture_fire h (s.host.hooks.scanline == some 144) .scanline
  show State.drawnFrame _ = _
  unfold State.drawnFrame
  rw [f.model, f.look, f.picture]; rfl

/-- What a base tick of a quiet machine does with its picture, once the line phase is done. -/
theorem baseTick_picture {s : State} (h : s.Quiet) :
    s.baseTick.ppu = { s.linePhase.ppu with lineTick := (s.linePhase.ppu.lineTick + 1) % Config.frameTicks } ∧
    s.baseTick.model = s.linePhase.model ∧ s.baseTick.look = s.linePhase.look ∧
    s.baseTick.host.picture = s.linePhase.drawTick ∧ s.baseTick.host.lastFrame = s.linePhase.host.lastFrame := by
  have b : SameFrame s s.linePhase.statPhase := (sameFrame_linePhase h.1).trans ⟨rfl, rfl, id⟩
  have p := ((samePicture_rtcPhase s.linePhase.statPhase.advanceLine).trans (samePicture_samplePhase _)).trans
    (u := State.countTick _) ⟨rfl, rfl, rfl, rfl, rfl, rfl⟩
  unfold State.baseTick
  rw [hblankPhase_quiet (b.quiet h)]
  exact ⟨p.ppu, p.model, p.look, p.picture, p.lastFrame⟩

/-- The line phase completes no frame but at the frame position 65,664. -/
theorem samePicture_linePhase {s : State} (h : s.host.replies = []) (k : s.ppu.lineTick ≠ Config.vblankTick) :
    SamePicture s s.linePhase := by
  unfold State.linePhase; split
  · split
    · rename_i hm
      refine samePicture_startLine h ?_
      intro e
      have hm : s.ppu.lineTick % 456 = 0 := hm
      have e : s.ppu.lineTick / 456 = 144 := e
      exact k (show s.ppu.lineTick = 65664 by omega)
    · exact .refl s
  · exact .refl s

/-- The phases of an M-cycle of a quiet machine around its base ticks touch no picture. -/
theorem deviceCycle_picture {s : State} (h : s.Quiet) (b : Bool) :
    ∃ t, t.Quiet ∧ SamePicture s t ∧ t.doubleSpeed = s.doubleSpeed ∧ SamePicture t.basePhase (s.deviceCycle b) := by
  have a := sameFrame_timerPhase s b
  have c := a.trans (sameFrame_serialPhase (a.quiet h).1)
  have e : SameFrame s (s.timerPhase b).serialPhase.basePhase.countCycle :=
    (c.trans (sameFrame_basePhase (c.quiet h))).trans ⟨rfl, rfl, id⟩
  refine ⟨(s.timerPhase b).serialPhase, c.quiet h, ?_, congrArg Control.doubleSpeed c.control, ?_⟩
  · exact SamePicture.trans (t := (s.timerPhase b).advanceSerial) ⟨rfl, rfl, rfl, rfl, rfl, rfl⟩
      (samePicture_fire (s := (s.timerPhase b).advanceSerial) (a.quiet h).1 _ _)
  · unfold State.deviceCycle
    rw [oamDmaPhase_quiet (a.quiet h), hdmaGeneral_quiet (e.quiet h)]
    exact ⟨rfl, rfl, rfl, rfl, rfl, rfl⟩

end Sys2Proof.Machine
end

