-- ==== Sys2Proof/Laws/Store.lean ====
section
/-! SUPPORT. What a store leaves, for one byte and for two bytes at neighbouring addresses, and that a byte written to plain RAM is
what a read gives (20_memory.md R60, R62, R64, R67). -/

namespace Sys2Proof.Machine

/-- The region of an address of plain RAM. -/
theorem region_plain {s : State} {a : Addr} (h : plainRam a = true) :
    (∃ o, s.region a = .wram o) ∨ (∃ o, s.region a = .hram o) := by
  simp only [plainRam, Bool.or_eq_true, Bool.and_eq_true, decide_eq_true_eq] at h
  unfold State.region
  dsimp only
  by_cases h1 : a.toNat < 0xE000
  · left
    rw [if_neg (by omega), if_neg (by omega), if_neg (by omega), if_pos h1]
    exact ⟨_, rfl⟩
  · by_cases h2 : a.toNat < 0xFE00
    · left
      rw [if_neg (by omega), if_neg (by omega), if_neg (by omega), if_neg h1, if_pos h2]
      exact ⟨_, rfl⟩
    · right
      rw [if_neg (by omega), if_neg (by omega), if_neg (by omega), if_neg h1, if_neg h2, if_neg (by omega), if_neg (by omega),
        if_neg (by omega), if_pos (by omega)]
      exact ⟨_, rfl⟩

theorem plain_not_p1 {a : Addr} (h : plainRam a = true) : isP1 a = false := by
  cases hp : isP1 a with
  | false => rfl
  | true =>
    have ha : a = 0xFF00 := by simpa [isP1] using hp
    subst ha
    exact absurd h (by decide)

/-- Plain RAM starts no DMA and is no special register. -/
theorem plain_startsDma {a : Addr} (h : plainRam a = true) : startsDma a = false ∧ setsControl a = false := by
  constructor
  · simp only [startsDma, Bool.or_eq_false_iff, beq_eq_false_iff_ne]
    constructor <;> (rintro rfl; exact absurd h (by decide))
  · simp only [plainRam, Bool.or_eq_true, Bool.and_eq_true, decide_eq_true_eq] at h
    simp only [setsControl, Bool.or_eq_false_iff, Bool.and_eq_false_iff, decide_eq_false_iff_not]
    omega

/-- The cell of an address of plain RAM is the byte its reads give. -/
theorem codeByte_plain {s : State} {a : Addr} (h : plainRam a = true) :
    ∃ k o, s.cellOf a = some (k, o) ∧ s.codeByte a = some (s.ramByte k o) ∧
      ∀ v, s.dmaBlocks a = false → s.resolveWrite a v = s.setRamByte k o v := by
  rcases region_plain (s := s) h with ⟨o, hr⟩ | ⟨o, hr⟩
  · exact ⟨.wram, o, by simp [State.cellOf, hr], by simp [State.codeByte, hr], fun v hd => by simp [State.resolveWrite, hr, hd]⟩
  · exact ⟨.hram, o, by simp [State.cellOf, hr], by simp [State.codeByte, hr], fun v hd => by simp [State.resolveWrite, hr, hd]⟩

/-- A store to plain RAM leaves the byte there. -/
theorem memWrite_plain {s : State} (q : s.Quiet) {a : Addr} (h : plainRam a = true) (v : Byte) :
    (s.memWrite a v).codeByte a = some v ∧ ∀ k o, s.cellOf a = some (k, o) → (s.memWrite a v).ramByte k o = v := by
  have x := sameFrame_fire q.1 s.host.hooks.write (.write a s.hookOffset)
  have y := x.trans (sameFrame_codeData (x.quiet q).1 a .data)
  have yq := y.quiet q
  obtain ⟨k, o, h1, -, h3⟩ := codeByte_plain (s := (s.fire s.host.hooks.write (.write a s.hookOffset)).codeData a .data) h
  have hw : ((s.fire s.host.hooks.write (.write a s.hookOffset)).codeData a .data).cpuWrite a v =
      ((s.fire s.host.hooks.write (.write a s.hookOffset)).codeData a .data).setRamByte k o v := by
    unfold State.cpuWrite
    rw [if_neg (by simp [plain_not_p1 h])]
    exact h3 v (by simp [State.dmaBlocks, yq.2.2.1])
  have wq := cpuWrite_quiet yq v (plain_startsDma h).1
  have w := sameFrame_deviceCycle wq true
  have hb : (s.memWrite a v).ramByte k o = v := by
    have e := w.ramByte k o
    rw [hw] at e
    rw [ramByte_setRamByte_same] at e
    rw [← hw] at e
    exact e
  have hc := memWrite_frame q a v (plain_startsDma h).1
  have hcell : s.cellOf a = some (k, o) := by rw [← cellOf_control y.control]; exact h1
  have hcell' : (s.memWrite a v).cellOf a = some (k, o) := by
    rw [cellOf_control (hc.2.2 (plain_startsDma h).2)]; exact hcell
  constructor
  · obtain ⟨k', o', g1, g2, -⟩ := codeByte_plain (s := s.memWrite a v) h
    rw [hcell'] at g1
    injection g1 with g1
    injection g1 with g1 g3
    subst g1 g3
    rw [g2, hb]
  · intro k' o' g
    rw [hcell] at g
    injection g with g
    injection g with g1 g3
    subst g1 g3
    exact hb

/-- A store at 0xFFFF leaves the byte in IE. -/
theorem memWrite_ie {s : State} (q : s.Quiet) (v : Byte) : (s.memWrite 0xFFFF v).ie = v := by
  have x := sameFrame_fire q.1 s.host.hooks.write (.write 0xFFFF s.hookOffset)
  have y := x.trans (sameFrame_codeData (x.quiet q).1 0xFFFF .data)
  have yq := y.quiet q
  have wq := cpuWrite_quiet yq v (show startsDma 0xFFFF = false by decide)
  have w := sameFrame_deviceCycle wq true
  have e : (((s.fire s.host.hooks.write (.write 0xFFFF s.hookOffset)).codeData 0xFFFF .data).cpuWrite 0xFFFF v).ie = v := by
    unfold State.cpuWrite
    rw [if_neg (by decide)]
    unfold State.resolveWrite
    rw [if_neg (by simp [State.dmaBlocks])]
    have hr : ∀ t : State, t.region 0xFFFF = .ie := fun t => by simp [State.region]
    rw [hr]
  exact (congrArg Memory.ie w.memory).trans e

theorem memWrite_ie_at {s : State} (q : s.Quiet) {a : Addr} (h : a = 0xFFFF) (v : Byte) : (s.memWrite a v).ie = v := by
  subst h; exact memWrite_ie q v

/-- What one store leaves. -/
theorem memWrite_wrote (s : State) (a : Addr) (v : Byte) : s.Wrote (s.memWrite a v) a v := by
  intro q hd
  obtain ⟨h1, -, h3⟩ := memWrite_frame q a v hd
  exact ⟨h1, h3, fun k o hp hc => (memWrite_plain q hp v).2 k o hc, fun ha => ha ▸ memWrite_ie q v⟩

/-- Neighbouring addresses of plain RAM select different bytes. -/
theorem cells_differ {s : State} {a b : Addr} (ha : plainRam a = true) (hb : plainRam b = true) (h : b = a + 1 ∨ b = a - 1) :
    s.cellOf a ≠ s.cellOf b := by
  have step : ∀ {a : Addr}, plainRam a = true → plainRam (a + 1) = true → s.cellOf a ≠ s.cellOf (a + 1) := by
    intro a ha hb
    have hlt := a.isLt
    simp only [plainRam, Bool.or_eq_true, Bool.and_eq_true, decide_eq_true_eq] at ha hb
    have hn : (a + 1).toNat = a.toNat + 1 := by
      rw [BitVec.toNat_add]
      have : (1 : Addr).toNat = 1 := rfl
      omega
    have wb : s.wramBank ≠ 0 := by
      unfold State.wramBank; split
      · split
        · decide
        · rename_i h
          intro h0
          exact h (BitVec.eq_of_toNat_eq h0)
      · decide
      · decide
    rw [hn] at hb
    unfold State.cellOf State.region
    dsimp only
    rw [hn]
    intro he
    have w0 : 0x1000 ≤ s.wramBank * 0x1000 := by omega
    by_cases c1 : a.toNat + 1 < 0xE000
    · rw [if_neg (by omega), if_neg (by omega), if_neg (by omega), if_pos (by omega), if_neg (by omega), if_neg (by omega),
        if_neg (by omega), if_pos c1] at he
      simp only [State.wramOffset, Option.some.injEq, Prod.mk.injEq, true_and] at he
      split at he <;> split at he <;> omega
    · by_cases c2 : a.toNat < 0xE000
      · rw [if_neg (by omega), if_neg (by omega), if_neg (by omega), if_pos c2, if_neg (by omega), if_neg (by omega),
          if_neg (by omega), if_neg c1, if_pos (by omega)] at he
        simp only [State.wramOffset, Option.some.injEq, Prod.mk.injEq, true_and] at he
        split at he <;> split at he <;> omega
      · by_cases c3 : a.toNat + 1 < 0xFE00
        · rw [if_neg (by omega), if_neg (by omega), if_neg (by omega), if_neg c2, if_pos (by omega), if_neg (by omega),
            if_neg (by omega), if_neg (by omega), if_neg c1, if_pos c3] at he
          simp only [State.wramOffset, Option.some.injEq, Prod.mk.injEq, true_and] at he
          split at he <;> split at he <;> omega
        · rw [if_neg (by omega), if_neg (by omega), if_neg (by omega), if_neg c2, if_neg (by omega), if_neg (by omega),
            if_neg (by omega), if_neg (by omega), if_pos (by omega), if_neg (by omega), if_neg (by omega), if_neg (by omega),
            if_neg c1, if_neg c3, if_neg (by omega), if_neg (by omega), if_neg (by omega), if_pos (by omega)] at he
          simp only [Option.some.injEq, Prod.mk.injEq, true_and] at he
          omega
  rcases h with rfl | rfl
  · exact step ha hb
  · have : a - 1 + 1 = a := by bv_omega
    have k := step (a := a - 1) hb (by rw [this]; exact ha)
    rw [this] at k
    exact k.symm

/-- What two stores at neighbouring addresses leave, with an update of the CPU before each. -/
theorem stores_wroteTwo (s : State) (c d : Cpu) {a b : Addr} (v w : Byte) (h : b = a + 1 ∨ b = a - 1) :
    s.WroteTwo (State.memWrite { s with cpu := c } a v)
      (State.memWrite { (State.memWrite { s with cpu := c } a v) with cpu := d } b w) a b v w := by
  intro q ha hb
  have q1 : State.Quiet { s with cpu := c } := q
  have m := memWrite_frame q1 a v ha
  have q2 : State.Quiet { (State.memWrite { s with cpu := c } a v) with cpu := d } := m.2.1
  have n := memWrite_frame q2 b w hb
  have hne : b ≠ a := by rcases h with rfl | rfl <;> bv_omega
  have hk : plainRam a = true → (State.memWrite { s with cpu := c } a v).cellOf b = s.cellOf b :=
    fun p => cellOf_control (m.2.2 (plain_startsDma p).2) _
  refine ⟨MemoryKept.trans m.1 n.1, fun c1 c2 => (n.2.2 c2).trans (m.2.2 c1), ?_, ?_, ?_, ?_⟩
  · intro k o p1 p2 hc
    have hd := cells_differ (s := s) p1 p2 h
    have e := n.1.2.1 k o (by
      show some (k, o) ∉ [(State.memWrite { s with cpu := c } a v).cellOf b]
      rw [hk p1, List.mem_singleton, ← hc]; exact hd)
    rw [e]
    exact (memWrite_plain q1 p1 v).2 k o hc
  · intro k o p1 p2 hc
    exact (memWrite_plain q2 p2 w).2 k o ((hk p1).trans hc)
  · intro ha' hb'
    rw [n.1.2.2 (by simpa using hb')]
    exact memWrite_ie_at q1 ha' v
  · intro hb'
    exact memWrite_ie_at q2 hb' w

theorem memWrite_wroteTwo (s : State) {a b : Addr} (v w : Byte) (h : b = a + 1 ∨ b = a - 1) :
    s.WroteTwo (s.memWrite a v) ((s.memWrite a v).memWrite b w) a b v w :=
  stores_wroteTwo s s.cpu (s.memWrite a v).cpu v w h

/-- What pushing two bytes leaves. -/
theorem push_wroteTwo (s : State) (v w : Byte) :
    s.WroteTwo (s.pushByte v) ((s.pushByte v).pushByte w) (s.cpu.sp - 1) (s.cpu.sp - 2) v w := by
  have hs := pushByte_sp s v
  have h2 : s.cpu.sp - 2 = s.cpu.sp - 1 - 1 := by bv_omega
  have e : (s.pushByte v).pushByte w =
      State.memWrite { (s.pushByte v) with cpu := { (s.pushByte v).cpu with sp := s.cpu.sp - 2 } } (s.cpu.sp - 2) w := by
    show ((s.pushByte v).setSp ((s.pushByte v).cpu.sp - 1)).memWrite ((s.pushByte v).cpu.sp - 1) w = _
    rw [hs, ← h2]; rfl
  rw [e]
  exact stores_wroteTwo s _ _ v w (.inr h2)

/-- What pushing one byte leaves. -/
theorem pushByte_frame {s : State} (q : s.Quiet) (v : Byte) (h : startsDma (s.cpu.sp - 1) = false) :
    s.MemoryKept (s.pushByte v) [s.cellOf (s.cpu.sp - 1)] (s.cpu.sp - 1 == 0xFFFF) ∧ (s.pushByte v).Quiet ∧
    (setsControl (s.cpu.sp - 1) = false → (s.pushByte v).control = s.control) := by
  have k := memWrite_frame (s := s.setSp (s.cpu.sp - 1)) q (s.cpu.sp - 1) v h
  exact k

/-- A byte pushed at 0xFFFF is IE. -/
theorem pushByte_ie {s : State} (q : s.Quiet) (v : Byte) (h : s.cpu.sp - 1 = 0xFFFF) : (s.pushByte v).ie = v := by
  have k := memWrite_ie_at (s := s.setSp (s.cpu.sp - 1)) q h v
  exact k

/-- Two stores after an operation that keeps memory, the special registers and the machine quiet. -/
theorem SameFrame.wroteTwo {s s' u t : State} {a b : Addr} {v w : Byte} (f : SameFrame s s') (h : s'.WroteTwo u t a b v w) :
    s.WroteTwo u t a b v w := by
  intro q ha hb
  obtain ⟨h1, h2, h3, h4, h5, h6⟩ := h (f.quiet q) ha hb
  have k := MemoryKept.trans (f.kept [] false) h1
  rw [cellOf_control f.control] at k
  exact ⟨by simpa using k, fun c1 c2 => (h2 c1 c2).trans f.control,
    fun k o p1 p2 hc => h3 k o p1 p2 ((cellOf_control f.control a).trans hc),
    fun k o p1 p2 hc => h4 k o p1 p2 ((cellOf_control f.control b).trans hc), h5, h6⟩

/-- Two stores before such an operation. -/
theorem wroteTwo_after {s u t t' : State} {a b : Addr} {v w : Byte} (h : s.WroteTwo u t a b v w)
    (f : s.Quiet → startsDma a = false → startsDma b = false → SameFrame t t') : s.WroteTwo u t' a b v w := by
  intro q ha hb
  obtain ⟨h1, h2, h3, h4, h5, h6⟩ := h q ha hb
  have g := f q ha hb
  have k := MemoryKept.trans h1 (g.kept [] false)
  have hi : t'.ie = t.ie := congrArg Memory.ie g.memory
  exact ⟨by simpa using k, fun c1 c2 => g.control.trans (h2 c1 c2),
    fun k o p1 p2 hc => (g.ramByte k o).trans (h3 k o p1 p2 hc),
    fun k o p1 p2 hc => (g.ramByte k o).trans (h4 k o p1 p2 hc), fun x y => hi.trans (h5 x y), fun x => hi.trans (h6 x)⟩

/-- One store after an operation that keeps memory, the special registers and the machine quiet. -/
theorem SameFrame.wrote {s s' t : State} {a : Addr} {v : Byte} (f : SameFrame s s') (h : s'.Wrote t a v) : s.Wrote t a v := by
  intro q ha
  obtain ⟨h1, h2, h3, h4⟩ := h (f.quiet q) ha
  have k := MemoryKept.trans (f.kept [] false) h1
  rw [cellOf_control f.control] at k
  exact ⟨by simpa using k, fun c => (h2 c).trans f.control, fun k o p hc => h3 k o p ((cellOf_control f.control a).trans hc), h4⟩

end Sys2Proof.Machine
end

