-- ==== Sys2Proof/Laws/Requests.lean ====
section
/-! SUPPORT. Requests in IF are only ever set by the device phases of an M-cycle and by a poll, never cleared (10_state.md R39): only a
write to IF and the acknowledgement of a dispatch clear them. -/

namespace Sys2Proof.Machine

/-- Every request of `q` is one of `r`. -/
structure Grows (q r : Requests) : Prop where
  vblank : q.vblank = true → r.vblank = true
  stat : q.stat = true → r.stat = true
  timer : q.timer = true → r.timer = true
  serial : q.serial = true → r.serial = true
  joypad : q.joypad = true → r.joypad = true

theorem Grows.refl (q : Requests) : Grows q q := ⟨id, id, id, id, id⟩

theorem Grows.trans {q r t : Requests} (h : Grows q r) (k : Grows r t) : Grows q t :=
  ⟨k.1 ∘ h.1, k.2 ∘ h.2, k.3 ∘ h.3, k.4 ∘ h.4, k.5 ∘ h.5⟩

/-- Bits 7:5 of IF read 1. -/
theorem toByte_high (q : Requests) : q.toByte[5] = true ∧ q.toByte[6] = true ∧ q.toByte[7] = true := by
  obtain ⟨a, b, c, d, e⟩ := q
  revert a b c d e
  decide

/-- The bits of IF only grow with the requests. -/
theorem Grows.bits {q r : Requests} (h : Grows q r) (k : Nat) (hk : bit q.toByte k = true) : bit r.toByte k = true := by
  obtain ⟨a0, a1, a2, a3, a4⟩ := toByte_bits q
  obtain ⟨b0, b1, b2, b3, b4⟩ := toByte_bits r
  obtain ⟨b5, b6, b7⟩ := toByte_high r
  match k with
  | 0 => exact b0.trans (h.vblank (a0.symm.trans hk))
  | 1 => exact b1.trans (h.stat (a1.symm.trans hk))
  | 2 => exact b2.trans (h.timer (a2.symm.trans hk))
  | 3 => exact b3.trans (h.serial (a3.symm.trans hk))
  | 4 => exact b4.trans (h.joypad (a4.symm.trans hk))
  | 5 => exact b5
  | 6 => exact b6
  | 7 => exact b7
  | k + 8 =>
    have : bit q.toByte (k + 8) = false := BitVec.getLsbD_of_ge _ _ (by omega)
    rw [this] at hk
    contradiction

theorem resolveRead_irq (s : State) (a : Addr) : (s.resolveRead a).2.irq = s.irq := by
  unfold State.resolveRead; split
  · split
    · unfold State.bootRead; split <;> rfl
    · unfold State.romRead; split <;> rfl
  · rfl
  · unfold State.cartRead; split <;> rfl
  all_goals rfl

theorem fire_irq {s : State} (h : s.host.replies = []) (b : Bool) (c : HookCall) : (s.fire b c).irq = s.irq := by
  unfold State.fire; split
  · unfold State.callHook; rw [h]; rfl
  · rfl

theorem linePhase_irq {s : State} (h : s.host.replies = []) : Grows s.irq s.linePhase.irq := by
  unfold State.linePhase; split
  · split
    · unfold State.startLine; dsimp only; split
      · have := fire_irq h (s.host.hooks.scanline == some (s.ppu.lineTick / Config.lineTicks)) .scanline
        show Grows s.irq { (State.irq _) with vblank := true }
        rw [this]
        exact ⟨fun _ => rfl, id, id, id, id⟩
      · rw [fire_irq h]; exact Grows.refl _
    · exact Grows.refl _
  · split
    · exact Grows.refl _
    · exact Grows.refl _

theorem baseTick_irq {s : State} (q : s.Quiet) : Grows s.irq s.baseTick.irq := by
  have b : SameFrame s s.linePhase.statPhase := (sameFrame_linePhase q.1).trans ⟨rfl, rfl, id⟩
  have e : s.linePhase.statPhase.hblankPhase = s.linePhase.statPhase := hblankPhase_quiet (b.quiet q)
  have r : ∀ t : State, t.rtcPhase.irq = t.irq := by intro t; unfold State.rtcPhase; split <;> rfl
  have m : ∀ t : State, t.samplePhase.irq = t.irq := by intro t; unfold State.samplePhase; split <;> rfl
  have h : s.baseTick.irq = s.linePhase.statPhase.irq := by
    show s.linePhase.statPhase.hblankPhase.advanceLine.rtcPhase.samplePhase.irq = _
    rw [m, r, e]; rfl
  rw [h]
  exact (linePhase_irq q.1).trans ⟨id, fun x => by
    show (s.linePhase.irq.stat || _) = true
    rw [x]; rfl, id, id, id⟩

/-- The device phase of an M-cycle of a quiet machine only sets requests. -/
theorem deviceCycle_irq {s : State} (q : s.Quiet) (b : Bool) : Grows s.irq (s.deviceCycle b).irq := by
  have a := sameFrame_timerPhase s b
  have c := a.trans (sameFrame_serialPhase (a.quiet q).1)
  have d := c.trans (sameFrame_basePhase (c.quiet q))
  have e : SameFrame s (s.timerPhase b).serialPhase.basePhase.countCycle := d.trans ⟨rfl, rfl, id⟩
  have i1 : Grows s.irq (s.timerPhase b).irq := ⟨id, id, fun x => by
    show (s.irq.timer || _) = true
    rw [x]; rfl, id, id⟩
  have i2 : ∀ {t : State}, t.Quiet → Grows t.irq t.serialPhase.irq := by
    intro t qt
    unfold State.serialPhase
    rw [fire_irq (s := t.advanceSerial) qt.1]
    exact ⟨id, id, id, fun x => by
      show (t.irq.serial || _) = true
      rw [x]; rfl, id⟩
  have i3 : ∀ {t : State}, t.Quiet → Grows t.irq t.basePhase.irq := by
    intro t qt
    have q2 := (sameFrame_baseTick qt).quiet qt
    have q3 := (sameFrame_baseTick q2).quiet q2
    have q4 := (sameFrame_baseTick q3).quiet q3
    have two := (baseTick_irq qt).trans (baseTick_irq q2)
    unfold State.basePhase; split
    · exact two
    · exact two.trans ((baseTick_irq q3).trans (baseTick_irq q4))
  unfold State.deviceCycle
  rw [oamDmaPhase_quiet (a.quiet q), hdmaGeneral_quiet (e.quiet q)]
  exact (i1.trans (i2 (a.quiet q))).trans (i3 (c.quiet q))

theorem internal_irq {s : State} (q : s.Quiet) : Grows s.irq s.internal.irq := deviceCycle_irq q true

/-- A store outside the I/O window that starts no DMA only sets requests. -/
theorem memWrite_irq {s : State} (q : s.Quiet) (a : Addr) (v : Byte) (hd : startsDma a = false)
    (h : a.toNat < 0xFF00 ∨ 0xFF80 ≤ a.toNat) : Grows s.irq (s.memWrite a v).irq := by
  have x := sameFrame_fire q.1 s.host.hooks.write (.write a s.hookOffset)
  have y := x.trans (sameFrame_codeData (x.quiet q).1 a .data)
  have e1 : ((s.fire s.host.hooks.write (.write a s.hookOffset)).codeData a .data).irq = s.irq := by
    unfold State.codeData
    rw [fire_irq (x.quiet q).1, fire_irq q.1]
  have e2 : ∀ t : State, (t.cpuWrite a v).irq = t.irq := by
    intro t
    have hp : isP1 a = false := by
      cases hp : isP1 a with
      | false => rfl
      | true =>
        have ha : a = 0xFF00 := by simpa [isP1] using hp
        subst ha
        exact absurd h (by decide)
    unfold State.cpuWrite
    rw [if_neg (by simp [hp])]
    unfold State.resolveWrite; split
    · rfl
    · split
      · rfl
      · rfl
      · unfold State.cartWrite; dsimp only; split <;> rfl
      · rfl
      · rfl
      · rfl
      · rename_i hr
        simp only [State.region] at hr
        repeat' split at hr
        all_goals first
          | contradiction
          | omega
      · rfl
      · rfl
  have z := cpuWrite_quiet (y.quiet q) v hd
  have w := deviceCycle_irq z true
  rw [e2, e1] at w
  exact w

theorem pushByte_irq {s : State} (q : s.Quiet) (v : Byte) (hd : startsDma (s.cpu.sp - 1) = false)
    (h : (s.cpu.sp - 1).toNat < 0xFF00 ∨ 0xFF80 ≤ (s.cpu.sp - 1).toNat) : Grows s.irq (s.pushByte v).irq := by
  have k := memWrite_irq (s := s.setSp (s.cpu.sp - 1)) q (s.cpu.sp - 1) v hd h
  exact k

/-- The requests pending only grow while IE is the same. -/
theorem pendingByte_le {s t : State} (h : Grows s.irq t.irq) (hi : t.ie = s.ie) (k : Nat) (hk : bit s.pendingByte k = true) :
    bit t.pendingByte k = true := by
  unfold State.pendingByte bit at hk ⊢
  rw [BitVec.getLsbD_and, BitVec.getLsbD_and, Bool.and_eq_true, Bool.and_eq_true] at hk ⊢
  exact ⟨⟨hi ▸ hk.1.1, h.bits k hk.1.2⟩, hk.2⟩

end Sys2Proof.Machine
end

