-- ==== Sys2Proof/Laws/Step.lean ====
section
/-! SUPPORT. The step (30_encoding.md R119) and the refused mark (00_scope.md R25): every CPU step answers a next state and makes
progress, and a step is the CPU step unless a hook makes a call it must not. -/

namespace Sys2Proof.Machine

theorem runInstr_progress (s : State) : ∃ n t, s.runInstr = .next t ∧ Progress n s t := by
  obtain ⟨i, -, hr⟩ := runInstr_decoded s
  obtain ⟨t, ht, k⟩ := meaning i s.startInstr.fetchInstr.2
  exact ⟨_, t, hr.trans ht, ((progress_startInstr s).trans (progress_fetchInstr _)).trans k⟩

theorem atBoundary_progress (s : State) : ∃ n t, s.atBoundary = .next t ∧ Progress n s t := by
  unfold State.atBoundary; split
  · exact ⟨_, _, rfl, progress_dispatch s⟩
  · exact runInstr_progress s

/-- Every CPU step answers a next state. -/
theorem cpuStep_progress (s : State) : ∃ n t, s.cpuStep = .next t ∧ Progress n s t := by
  unfold State.cpuStep
  split
  · exact ⟨_, _, rfl, progress_internal s⟩
  split
  · exact ⟨_, _, rfl, progress_stallCycle s⟩
  split
  · exact ⟨_, _, rfl, progress_stopCycle s⟩
  split
  · split
    · obtain ⟨n, t, h, k⟩ := atBoundary_progress s.haltWake
      exact ⟨_, t, h, (progress_haltWake s).trans k⟩
    · exact ⟨_, _, rfl, progress_internal s⟩
  · exact atBoundary_progress s

/-- A step of a machine that may run is its CPU step, or is refused for what a hook did in it. -/
theorem step_running {s : State} (h : s.loaded = true) (k : s.host.refusedMark = false) : step s = unlessMisused s.cpuStep := by
  simp [step, State.guardedStep, h, k]

/-- A step in which no hook makes a refused call is the CPU step. -/
theorem step_behaved {s : State} (h : s.loaded = true) (k : s.host.refusedMark = false) (b : s.HooksBehave) :
    step s = s.cpuStep := by
  obtain ⟨n, t, ht, p⟩ := cpuStep_progress s
  rw [step_running h k, ht, unlessMisused, (p.fixed.behave b).2, k]; rfl

/-- A step that answers a next state is the CPU step of a machine with a cartridge, before and after which the refused mark is 0. -/
theorem step_next {s t : State} (h : step s = .next t) :
    s.loaded = true ∧ s.host.refusedMark = false ∧ s.cpuStep = .next t ∧ t.host.refusedMark = false := by
  obtain ⟨n, u, hu, -⟩ := cpuStep_progress s
  unfold step State.guardedStep at h
  split at h
  · contradiction
  split at h
  · contradiction
  · rename_i hl hm
    rw [hu] at h; unfold unlessMisused at h; dsimp only at h
    split at h
    · contradiction
    · rename_i hv
      cases h
      exact ⟨by simpa using hl, by simpa using hm, hu, by simpa using hv⟩

/-- A CPU step that runs an instruction. -/
theorem cpuStep_instr {s : State} (h : s.RunsInstr) : s.cpuStep = s.runInstr := by
  obtain ⟨⟨-, -, h3, h4, h5, h6⟩, h7⟩ := h
  simp [State.cpuStep, State.atBoundary, *]

/-- A step that runs an instruction. -/
theorem step_instr {s : State} (h : s.RunsInstr) (b : s.HooksBehave) : step s = s.runInstr :=
  (step_behaved h.1.1 h.1.2.1 b).trans (cpuStep_instr h)

end Sys2Proof.Machine
end

