-- ==== Sys2Proof/Laws/Units.lean ====
section
/-! SUPPORT. The timer, the serial unit and the joypad in an M-cycle: only their own phases change them, when the host makes no calls
from hooks (70_reset_and_hazards.md R259). -/

namespace Sys2Proof.Machine

/-- The timer, the serial unit, the joypad and their requests are kept, and so is a host without replies. -/
structure SameUnits (s t : State) : Prop where
  timer : t.timer = s.timer
  serial : t.serial = s.serial
  joypad : t.joypad = s.joypad
  timerIrq : t.irq.timer = s.irq.timer
  serialIrq : t.irq.serial = s.irq.serial
  joypadIrq : t.irq.joypad = s.irq.joypad
  replies : t.host.replies = s.host.replies
  peer : t.host.peer = s.host.peer

theorem SameUnits.refl (s : State) : SameUnits s s := ⟨rfl, rfl, rfl, rfl, rfl, rfl, rfl, rfl⟩

theorem SameUnits.trans {s t u : State} (h : SameUnits s t) (k : SameUnits t u) : SameUnits s u :=
  ⟨k.1.trans h.1, k.2.trans h.2, k.3.trans h.3, k.4.trans h.4, k.5.trans h.5, k.6.trans h.6, k.7.trans h.7,
    k.8.trans h.8⟩

theorem units_cpu (s : State) (c : Cpu) : SameUnits s { s with cpu := c } := ⟨rfl, rfl, rfl, rfl, rfl, rfl, rfl, rfl⟩

theorem units_resolveRead (s : State) (a : Addr) : SameUnits s (s.resolveRead a).2 := by
  have note : ∀ v, SameUnits s (s.noteCart v) := fun _ => ⟨rfl, rfl, rfl, rfl, rfl, rfl, rfl, rfl⟩
  have draw : SameUnits s s.nextDraw := ⟨rfl, rfl, rfl, rfl, rfl, rfl, rfl, rfl⟩
  unfold State.resolveRead; split
  · split
    · unfold State.bootRead; split
      · exact .refl s
      · exact draw
    · unfold State.romRead; split
      · exact note _
      · exact draw
  · exact draw
  · unfold State.cartRead; split
    · exact note _
    · exact note _
    · exact note _
    · exact draw
  all_goals first | exact .refl s | exact draw

theorem units_fire {s : State} (h : s.host.replies = []) (b : Bool) (c : HookCall) : SameUnits s (s.fire b c) := by
  unfold State.fire; split
  · unfold State.callHook; rw [h]
    exact ⟨rfl, rfl, rfl, rfl, rfl, rfl, rfl, rfl⟩
  · exact .refl s

theorem units_oamDmaPhase (s : State) : SameUnits s s.oamDmaPhase := by
  unfold State.oamDmaPhase; split
  · exact ⟨rfl, rfl, rfl, rfl, rfl, rfl, rfl, rfl⟩
  · split
    · exact (units_resolveRead s _).trans ⟨rfl, rfl, rfl, rfl, rfl, rfl, rfl, rfl⟩
    · exact .refl s

theorem units_linePhase {s : State} (h : s.host.replies = []) : SameUnits s s.linePhase := by
  unfold State.linePhase; split
  · split
    · unfold State.startLine; dsimp only; split
      · exact (units_fire h _ _).trans ⟨rfl, rfl, rfl, rfl, rfl, rfl, rfl, rfl⟩
      · exact units_fire h _ _
    · exact .refl s
  · split
    · exact ⟨rfl, rfl, rfl, rfl, rfl, rfl, rfl, rfl⟩
    · exact .refl s

theorem units_hdmaByte (s : State) : SameUnits s s.hdmaByte := by
  have r : SameUnits s (s.hdmaRead s.hdma.src).2 := by
    unfold State.hdmaRead; split
    · exact .refl s
    · exact units_resolveRead s _
  exact r.trans ⟨rfl, rfl, rfl, rfl, rfl, rfl, rfl, rfl⟩

theorem units_hdmaBytes (s : State) (n : Nat) : SameUnits s (s.hdmaBytes n) := by
  induction n with
  | zero => exact .refl s
  | succ n ih => rw [State.hdmaBytes]; exact ih.trans (units_hdmaByte _)

theorem units_hdmaBlock (s : State) : SameUnits s s.hdmaBlock := by
  rw [State.hdmaBlock]; exact (units_hdmaBytes s 16).trans (units_cpu _ _)

theorem units_hdmaBlocks (s : State) (n : Nat) : SameUnits s (s.hdmaBlocks n) := by
  induction n with
  | zero => exact .refl s
  | succ n ih => rw [State.hdmaBlocks]; exact ih.trans (units_hdmaBlock _)

theorem units_hdmaGeneral (s : State) : SameUnits s s.hdmaGeneral :=
  SameUnits.trans (t := { s with hdma := { s.hdma with pending := 0 } }) ⟨rfl, rfl, rfl, rfl, rfl, rfl, rfl, rfl⟩ (units_hdmaBlocks _ _)

theorem units_hblankPhase (s : State) : SameUnits s s.hblankPhase := by
  unfold State.hblankPhase; split
  · exact SameUnits.trans
      (t := { s with hdma := { s.hdma with active := decide (1 < s.hdma.blocks), blocks := s.hdma.blocks - 1 } })
      ⟨rfl, rfl, rfl, rfl, rfl, rfl, rfl, rfl⟩ (units_hdmaBlock _)
  · exact .refl s

theorem units_baseTick {s : State} (h : s.host.replies = []) : SameUnits s s.baseTick := by
  have rtc : ∀ t : State, SameUnits t t.rtcPhase := by
    intro t; unfold State.rtcPhase; split
    · exact ⟨rfl, rfl, rfl, rfl, rfl, rfl, rfl, rfl⟩
    · exact .refl t
  have sample : ∀ t : State, SameUnits t t.samplePhase := by
    intro t; unfold State.samplePhase; split
    · exact ⟨rfl, rfl, rfl, rfl, rfl, rfl, rfl, rfl⟩
    · exact .refl t
  have stat : ∀ t : State, SameUnits t t.statPhase := fun _ => ⟨rfl, rfl, rfl, rfl, rfl, rfl, rfl, rfl⟩
  have adv : ∀ t : State, SameUnits t t.advanceLine := fun _ => ⟨rfl, rfl, rfl, rfl, rfl, rfl, rfl, rfl⟩
  have cnt : ∀ t : State, SameUnits t t.countTick := fun _ => ⟨rfl, rfl, rfl, rfl, rfl, rfl, rfl, rfl⟩
  exact (((((units_linePhase h).trans (stat _)).trans (units_hblankPhase _)).trans (adv _)).trans (rtc _)).trans
    ((sample _).trans (cnt _))

theorem units_basePhase {s : State} (h : s.host.replies = []) : SameUnits s s.basePhase := by
  have a := units_baseTick h
  have b := a.trans (units_baseTick (a.replies.trans h))
  have c := b.trans (units_baseTick (b.replies.trans h))
  have d := c.trans (units_baseTick (c.replies.trans h))
  unfold State.basePhase; split
  · exact b
  · exact d

/-- What an M-cycle does to the timer, the serial unit and the joypad, when the host makes no calls from hooks. -/
theorem units_deviceCycle {s : State} (h : s.host.replies = []) (b : Bool) :
    SameUnits (s.timerPhase b).advanceSerial (s.deviceCycle b) := by
  have o := units_oamDmaPhase (s.timerPhase b)
  have e : SameUnits (s.timerPhase b).advanceSerial (s.timerPhase b).oamDmaPhase.advanceSerial := by
    refine ⟨o.timer, ?_, o.joypad, o.timerIrq, ?_, o.joypadIrq, o.replies, ?_⟩
    · exact congrArg₂ Serial.endCycle o.serial o.peer
    · show (_ || Serial.completes _ _) = _
      rw [o.serial, o.serialIrq, o.peer]; rfl
    · exact congrArg₂ Peer.endCycle o.peer o.serial
  have r : (s.timerPhase b).oamDmaPhase.advanceSerial.host.replies = [] := o.replies.trans h
  have f := e.trans (units_fire r ((s.timerPhase b).oamDmaPhase.serial.completes (s.timerPhase b).oamDmaPhase.host.peer &&
    (s.timerPhase b).oamDmaPhase.host.hooks.linkByte) .linkByte)
  have g := f.trans (units_basePhase (f.replies.trans h))
  have c : ∀ t : State, SameUnits t t.countCycle := fun _ => ⟨rfl, rfl, rfl, rfl, rfl, rfl, rfl, rfl⟩
  exact (g.trans (c _)).trans (units_hdmaGeneral _)

/-- The timer after `Internal()` (60_exceptions.md R223). -/
theorem internal_timer {s : State} (h : s.host.replies = []) :
    s.internal.timer = s.timer.endCycle true ∧ s.internal.irq.timer = (s.irq.timer || s.timer.reloadPending) :=
  ⟨(units_deviceCycle h true).timer, (units_deviceCycle h true).timerIrq⟩

/-- What the serial unit does in an M-cycle (60_exceptions.md R226): it shifts a bit, counts towards one, or stays as it is. -/
theorem serial_endCycle_cases (p : Serial) (q : Peer) :
    (p.bitDone q = true ∧ p.endCycle q = p.shift q) ∨
    (p.bitDone q = false ∧ p.running = true ∧ p.endCycle q = { p with ticks := p.ticks + 4 }) ∨
    (p.bitDone q = false ∧ p.running = false ∧ p.endCycle q = p) := by
  unfold Serial.endCycle
  cases p.bitDone q <;> cases p.running <;> simp

/-- The serial unit and the peer after `Internal()` (60_exceptions.md R226, R227). -/
theorem internal_serial {s : State} (h : s.host.replies = []) :
    s.internal.serial = s.serial.endCycle s.host.peer ∧
    s.internal.irq.serial = (s.irq.serial || s.serial.completes s.host.peer) ∧
    s.internal.host.peer = s.host.peer.endCycle s.serial :=
  ⟨(units_deviceCycle h true).serial, (units_deviceCycle h true).serialIrq, (units_deviceCycle h true).peer⟩

end Sys2Proof.Machine
end

