-- ==== Sys2Proof/Tests/Slice0.lean ====
section
/-! SUPPORT. The model's own tests: ill-formed byte strings, decoded words, one step of each instruction and of the devices against the
spec's examples and test vectors, and for every statement with hypotheses a machine that meets them. -/

/-- A machine with bytes stored at addresses. -/
def Sys2Proof.Machine.State.holding (s : Sys2Proof.Machine.State) : List (Sys2Proof.Addr × Sys2Proof.Byte) → Sys2Proof.Machine.State
  | [] => s
  | (a, v) :: r => Sys2Proof.Machine.State.holding (s.placeByte a v) r

/-- The byte an external read of an address gives. -/
def Sys2Proof.Machine.State.at (s : Sys2Proof.Machine.State) (a : Sys2Proof.Addr) : Sys2Proof.Byte := (s.resolveRead a).1

namespace Sys2Proof.Tests

open Sys2Proof.Machine

set_option Elab.async false

/-- What is observed of an outcome's next state. -/
def observed {α : Type} (o : Result) (f : State → α) : Option α :=
  match o with
  | .next t => some (f t)
  | .fault _ => none
  | .refused _ => none

/-- The refusal of an outcome, if it is one. -/
def refusalOf (o : Result) : Option Refusal :=
  match o with
  | .refused r => some r
  | .next _ => none
  | .fault _ => none

/-- What is observed after the one step of a machine with code at PC. -/
def ran {α : Type} (s : State) (code : List Byte) (f : State → α) : Option α := observed (step (s.placeBytes s.cpu.pc code)) f

theorem of_observed {α : Type} {o : Result} {f : State → α} {v : α} (h : observed o f = some v) : ∃ t, o = .next t ∧ f t = v := by
  cases o with
  | next t => exact ⟨t, rfl, Option.some.inj h⟩
  | fault r => contradiction
  | refused r => contradiction

/-! Well-formed byte strings: a string of no byte, with too few and with too many is refused (30_encoding.md R113). -/

theorem test_wf_none : bytesWellFormed [] = false := by decide

theorem test_wf_too_few : bytesWellFormed [0x3E] = false ∧ bytesWellFormed [0x01, 0x34] = false ∧ bytesWellFormed [0xCB] = false ∧
    bytesWellFormed [0x10] = false := by decide

theorem test_wf_too_many : bytesWellFormed [0x00, 0x00] = false ∧ bytesWellFormed [0x3E, 0x5A, 0x00] = false ∧
    bytesWellFormed [0xD3, 0x00] = false := by decide

theorem test_wf : bytesWellFormed [0x00] = true ∧ bytesWellFormed [0x3E, 0x5A] = true ∧ bytesWellFormed [0xC3, 0x50, 0x01] = true ∧
    bytesWellFormed [0xCB, 0x9E] = true := by decide

/-! Decoding, each word written out from the fields of its encoding (30_encoding.md R98 to R112; 95_test_vectors.md section 2.1). -/

theorem test_decode_load8 : decode [0b01000001] = .ok (.ldBC, []) ∧ decode [0b01111110] = .ok (.ldAAtHL, []) ∧
    decode [0b01110000] = .ok (.ldAtHLB, []) ∧ decode [0b00000110, 0x42] = .ok (.ldBImm 0x42, []) ∧
    decode [0b00110110, 0x42] = .ok (.ldAtHLImm 0x42, []) ∧ decode [0b11100000, 0x44] = .ok (.ldhAtImmA 0x44, []) ∧
    decode [0b11110010] = .ok (.ldAAtC, []) ∧ decode [0b11101010, 0x23, 0xE1] = .ok (.ldAtImm16A 0xE123, []) := by decide +kernel

theorem test_decode_load16 : decode [0b00100001, 0x34, 0x12] = .ok (.ldHLImm16 0x1234, []) ∧
    decode [0b00110001, 0xFE, 0xFF] = .ok (.ldSPImm16 0xFFFE, []) ∧ decode [0b11110101] = .ok (.pushAF, []) ∧
    decode [0b11010001] = .ok (.popDE, []) ∧ decode [0b11111000, 0x80] = .ok (.ldHLSPDisp 0x80, []) ∧
    decode [0b00001000, 0x00, 0xC1] = .ok (.ldAtImm16SP 0xC100, []) := by decide +kernel

theorem test_decode_alu : decode [0b10011110] = .ok (.alu .sbc .atHL, []) ∧ decode [0b11101110, 0x0F] = .ok (.aluImm .xor 0x0F, []) ∧
    decode [0b10111000] = .ok (.alu .cp (.reg .b), []) ∧ decode [0b00110100] = .ok (.inc .atHL, []) ∧
    decode [0b00001101] = .ok (.dec (.reg .c), []) ∧ decode [0b00100111] = .ok (.daa, []) ∧
    decode [0b00101001] = .ok (.addHL .hl, []) ∧ decode [0b00110011] = .ok (.incPair .sp, []) ∧
    decode [0b11101000, 0x02] = .ok (.addSPDisp 0x02, []) := by decide +kernel

theorem test_decode_cb : decode [0b11001011, 0b01111100] = .ok (.bit .i7 (.reg .h), []) ∧
    decode [0b11001011, 0b10000110] = .ok (.res .i0 .atHL, []) ∧ decode [0b11001011, 0b00110111] = .ok (.shift .swap (.reg .a), []) ∧
    decode [0b11001011, 0b11000001] = .ok (.set .i0 (.reg .c), []) ∧ decode [0b00000111] = .ok (.rlca, []) := by decide +kernel

theorem test_decode_control : decode [0b00111000, 0xFE] = .ok (.jrCond .c 0xFE, []) ∧
    decode [0b11000100, 0x00, 0x20] = .ok (.callCond .nz 0x2000, []) ∧ decode [0b11101111] = .ok (.rst .i5, []) ∧
    decode [0b11000011, 0x50, 0x01] = .ok (.jpImm16 0x0150, []) ∧ decode [0b11001001] = .ok (.ret, []) ∧
    decode [0b11011001] = .ok (.reti, []) ∧ decode [0b11010000] = .ok (.retCond .nc, []) := by decide +kernel

theorem test_decode_system : decode [0b01110110] = .ok (.halt, []) ∧ decode [0b00010000, 0x00] = .ok (.stop 0x00, []) ∧
    decode [0b11111011] = .ok (.ei, []) ∧ decode [0b11110011] = .ok (.di, []) ∧
    decode [0b11010011] = .ok (.illegal .opD3, []) := by decide +kernel

/-- A table word of each length decodes, and runs as the first instruction after reset. -/
theorem test_table_words : decodeTableWord 8 0x3E = some (.ldAImm 0) ∧ decodeTableWord 16 0xCB37 = some .swapA ∧
    decodeTableWord 8 0xC3 = some (.jpImm16 0) := by decide +kernel

theorem test_fetch_word : (State.reset.withFetchWord 16 0xCB37).startInstr.fetchInstr.1 = [0xCB, 0x37] := by decide +kernel

/-- 41_load16.md R142: `LD BC,0x1234` has C = 0x34, and B as before, when its second operand byte is fetched, as a host that reads the
registers from the third call of the code/data log sees. -/
theorem test_ld_low_first :
    ran (({ State.reset with host := { HostSide.initial with replies := [⟨0, []⟩, ⟨0, []⟩, ⟨0, [.getRegs]⟩] } }).setHooks
      { HostSide.initial.hooks with codeData := true }) [0x01, 0x34, 0x12] (fun t => (t.host.events.head?, t.cpu.b, t.cpu.c)) =
      some (some (.regs [0x0102, 0xFFFE, 0x01, 0x00, 0x34, 0x00, 0xD8, 0xB0, 0x01, 0x4D]), 0x12, 0x34) := by
  decide +kernel

/-! One step of each instruction, of an interrupt dispatch and of the devices. Bit 1 of IF, the STAT request, is a free value of every
M-cycle and is not observed. -/
/-- 40_load8.md R123, example. -/
theorem test_ld_b_c :
    ran ({ State.reset with cpu := { Cpu.reset with b := 0x12, c := 0x34 } }) [0x41] (fun t => (t.cpu.b, t.cpu.c, t.cpu.pc, t.cycles)) =
      some (0x34, 0x34, 0x0101, 4) := by
  decide +kernel

/-- 95_test_vectors.md section 2.2. -/
theorem test_ld_same_register :
    ran ({ State.reset with cpu := { Cpu.reset with b := 0x42 } }) [0x40] (fun t => (t.cpu.b, t.flags, t.cycles)) =
      some (0x42, 0xB0, 4) := by
  decide +kernel

/-- 40_load8.md R124, example. -/
theorem test_ld_a_imm :
    ran ({ State.reset with cpu := { Cpu.reset with pc := 0x150 } }) [0x3E, 0x5A] (fun t => (t.cpu.a, t.cpu.pc, t.cycles)) =
      some (0x5A, 0x0152, 8) := by
  decide +kernel

/-- 95_test_vectors.md section 2.2. -/
theorem test_ld_h_from_hl :
    ran (({ State.reset with cpu := { Cpu.reset with h := 0xc0, l := 0 } } : State).holding [(0xC000, 0x55)]) [0x66] (fun t => (t.cpu.h, t.cpu.l, t.cycles)) =
      some (0x55, 0x00, 8) := by
  decide +kernel

/-- 95_test_vectors.md section 2.2. -/
theorem test_ld_to_hl_h :
    ran ({ State.reset with cpu := { Cpu.reset with h := 0xc0, l := 0x12 } }) [0x74] (fun t => (t.at 0xC012, t.cycles)) =
      some (0xC0, 8) := by
  decide +kernel

/-- 40_load8.md R127, example. -/
theorem test_ld_at_hl_imm :
    ran ({ State.reset with cpu := { Cpu.reset with h := 0xff, l := 0x80 } }) [0x36, 0x01] (fun t => (t.at 0xFF80, t.cycles)) =
      some (0x01, 12) := by
  decide +kernel

/-- 40_load8.md R128, example. -/
theorem test_ld_a_at_bc :
    ran (({ State.reset with cpu := { Cpu.reset with b := 0xc1, c := 0 } } : State).holding [(0xC100, 0x42)]) [0x0A] (fun t => (t.cpu.a, t.cycles)) =
      some (0x42, 8) := by
  decide +kernel

/-- 40_load8.md R129. -/
theorem test_ld_a_at_de :
    ran (({ State.reset with cpu := { Cpu.reset with d := 0xc1, e := 0x23 } } : State).holding [(0xC123, 0x42)]) [0x1A] (fun t => (t.cpu.a, t.cycles)) =
      some (0x42, 8) := by
  decide +kernel

/-- 40_load8.md R130, example. -/
theorem test_ld_at_bc_a :
    ran ({ State.reset with cpu := { Cpu.reset with b := 0xc2, c := 0, a := 0x11 } }) [0x02] (fun t => (t.at 0xC200, t.cycles)) =
      some (0x11, 8) := by
  decide +kernel

/-- 95_test_vectors.md section 2.2. -/
theorem test_ld_at_de_a :
    ran ({ State.reset with cpu := { Cpu.reset with d := 0xd0, e := 0, a := 0x21 } }) [0x12] (fun t => (t.at 0xD000, t.cycles)) =
      some (0x21, 8) := by
  decide +kernel

/-- 40_load8.md R132, example. -/
theorem test_ld_a_imm16 :
    ran (({ State.reset with cpu := Cpu.reset } : State).holding [(0xC123, 0xAB)]) [0xFA, 0x23, 0xC1] (fun t => (t.cpu.a, t.cycles)) =
      some (0xAB, 16) := by
  decide +kernel

/-- 95_test_vectors.md section 2.2. -/
theorem test_ld_imm16_a_echo :
    ran ({ State.reset with cpu := { Cpu.reset with a := 0x5a } }) [0xEA, 0x23, 0xE1] (fun t => (t.at 0xC123, t.cycles)) =
      some (0x5A, 16) := by
  decide +kernel

/-- 40_load8.md R133, example. -/
theorem test_ld_imm16_a_lcdc :
    ran ({ State.reset with cpu := { Cpu.reset with a := 0x80 } }) [0xEA, 0x40, 0xFF] (fun t => (t.ppu.lcdc, t.cycles)) =
      some (0x80, 16) := by
  decide +kernel

/-- 40_load8.md R134, example. -/
theorem test_ld_a_at_c :
    ran ({ State.reset with cpu := { Cpu.reset with c := 0x44 }, ppu := ⟨0x91, 0x90 * 456⟩ }) [0xF2] (fun t => (t.cpu.a, t.cycles)) =
      some (0x90, 8) := by
  decide +kernel

/-- 40_load8.md R135, example. -/
theorem test_ld_at_c_a :
    ran ({ State.reset with cpu := { Cpu.reset with c := 0x80, a := 0x3c } }) [0xE2] (fun t => (t.at 0xFF80, t.cycles)) =
      some (0x3C, 8) := by
  decide +kernel

/-- 95_test_vectors.md section 2.2. -/
theorem test_ldh_a_imm :
    ran (({ State.reset with cpu := Cpu.reset } : State).holding [(0xFF85, 0x77)]) [0xF0, 0x85] (fun t => (t.cpu.a, t.cycles)) =
      some (0x77, 12) := by
  decide +kernel

/-- 10_state.md R39. -/
theorem test_ldh_a_if :
    ran ({ State.reset with cpu := Cpu.reset, irq := ⟨true, true, false, false, false⟩ }) [0xF0, 0x0F] (fun t => (t.cpu.a, t.cycles)) =
      some (0xE3, 12) := by
  decide +kernel

/-- 95_test_vectors.md section 2.2. -/
theorem test_ldh_if_a :
    ran ({ State.reset with cpu := { Cpu.reset with a := 0 } }) [0xE0, 0x0F] (fun t => ((t.irq.vblank, t.irq.timer, t.irq.serial, t.irq.joypad), t.cycles)) =
      some ((false, false, false, false), 12) := by
  decide +kernel

/-- 40_load8.md R137, example. -/
theorem test_ldh_dma :
    ran ({ State.reset with cpu := { Cpu.reset with a := 0xc0 } }) [0xE0, 0x46] (fun t => (t.oamDma, t.cycles)) =
      some (⟨0xC0, false, true, 0⟩, 12) := by
  decide +kernel

/-- 40_load8.md R138, example. -/
theorem test_ld_a_hl_inc :
    ran (({ State.reset with cpu := { Cpu.reset with h := 0xc0, l := 0 } } : State).holding [(0xC000, 0x01)]) [0x2A] (fun t => (t.cpu.a, t.hl, t.cycles)) =
      some (0x01, 0xC001, 8) := by
  decide +kernel

/-- 95_test_vectors.md section 2.2. -/
theorem test_ld_hl_inc_a_wraps :
    ran ({ State.reset with cpu := { Cpu.reset with a := 0x7e, h := 0xff, l := 0xff } }) [0x22] (fun t => (t.ie, t.hl, t.cycles)) =
      some (0x7E, 0x0000, 8) := by
  decide +kernel

/-- 95_test_vectors.md section 2.2. -/
theorem test_ld_a_hl_dec_wraps :
    ran (({ State.reset with cpu := { Cpu.reset with h := 0, l := 0 } } : State).holding [(0x0000, 0x31)]) [0x3A] (fun t => (t.cpu.a, t.hl, t.cycles)) =
      some (0x31, 0xFFFF, 8) := by
  decide +kernel

/-- 40_load8.md R141, example. -/
theorem test_ld_hl_dec_a :
    ran ({ State.reset with cpu := { Cpu.reset with h := 0xdf, l := 0xff, a := 0 } }) [0x32] (fun t => (t.at 0xDFFF, t.hl, t.cycles)) =
      some (0x00, 0xDFFE, 8) := by
  decide +kernel

/-- 95_test_vectors.md section 2.3. -/
theorem test_ld_de_imm16 :
    ran ({ State.reset with cpu := Cpu.reset }) [0x11, 0xEF, 0xBE] (fun t => (t.cpu.d, t.cpu.e, t.cycles)) =
      some (0xBE, 0xEF, 12) := by
  decide +kernel

/-- 41_load16.md R142, example. -/
theorem test_ld_sp_imm16 :
    ran ({ State.reset with cpu := { Cpu.reset with sp := 0 } }) [0x31, 0xFE, 0xFF] (fun t => (t.cpu.sp, t.cycles)) =
      some (0xFFFE, 12) := by
  decide +kernel

/-- 95_test_vectors.md section 2.3. -/
theorem test_ld_imm16_sp :
    ran ({ State.reset with cpu := { Cpu.reset with sp := 0xfff8 } }) [0x08, 0x00, 0xC1] (fun t => (t.at 0xC100, t.at 0xC101, t.cycles)) =
      some (0xF8, 0xFF, 20) := by
  decide +kernel

/-- 41_load16.md R144, example. -/
theorem test_ld_sp_hl :
    ran ({ State.reset with cpu := { Cpu.reset with h := 0xd0, l := 0 } }) [0xF9] (fun t => (t.cpu.sp, t.cycles)) =
      some (0xD000, 8) := by
  decide +kernel

/-- 41_load16.md R145, example. -/
theorem test_push_bc :
    ran ({ State.reset with cpu := { Cpu.reset with b := 0x12, c := 0x34 } }) [0xC5] (fun t => (t.at 0xFFFD, t.at 0xFFFC, t.cpu.sp, t.cycles)) =
      some (0x12, 0x34, 0xFFFC, 16) := by
  decide +kernel

/-- 95_test_vectors.md section 2.3. -/
theorem test_push_bc_wraps :
    ran ({ State.reset with cpu := { Cpu.reset with b := 0x12, c := 0x34, sp := 0 } }) [0xC5] (fun t => (t.ie, t.at 0xFFFE, t.cpu.sp, t.cycles)) =
      some (0x12, 0x34, 0xFFFE, 16) := by
  decide +kernel

/-- 41_load16.md R146, example. -/
theorem test_pop_de :
    ran (({ State.reset with cpu := { Cpu.reset with sp := 0xfffc } } : State).holding [(0xFFFC, 0x34), (0xFFFD, 0x12)]) [0xD1] (fun t => (t.pair .de, t.cpu.sp, t.cycles)) =
      some (0x1234, 0xFFFE, 12) := by
  decide +kernel

/-- 95_test_vectors.md section 2.3. -/
theorem test_pop_hl_wraps :
    ran (({ State.reset with cpu := { Cpu.reset with sp := 0xffff } } : State).holding [(0xFFFF, 0x07), (0x0000, 0x31)]) [0xE1] (fun t => (t.hl, t.cpu.sp, t.cycles)) =
      some (0x3107, 0x0001, 12) := by
  decide +kernel

/-- 95_test_vectors.md section 2.3. -/
theorem test_pop_af :
    ran (({ State.reset with cpu := { Cpu.reset with sp := 0xfffc } } : State).holding [(0xFFFC, 0xFF), (0xFFFD, 0x12)]) [0xF1] (fun t => (t.cpu.a, t.flags, t.cpu.sp, t.cycles)) =
      some (0x12, 0xF0, 0xFFFE, 12) := by
  decide +kernel

/-- 95_test_vectors.md section 2.3. -/
theorem test_ld_hl_sp_disp :
    ran ({ State.reset with cpu := { Cpu.reset with sp := 0xfff8 } }) [0xF8, 0x08] (fun t => (t.hl, t.flags, t.cycles)) =
      some (0x0000, 0x30, 12) := by
  decide +kernel

/-- 95_test_vectors.md section 2.3. -/
theorem test_ld_hl_sp_negative :
    ran ({ State.reset with cpu := { Cpu.reset with sp := 0x10ff } }) [0xF8, 0x80] (fun t => (t.hl, t.flags, t.cycles)) =
      some (0x107F, 0x10, 12) := by
  decide +kernel

/-- 42_alu8.md R151, example. -/
theorem test_add_b :
    ran ({ State.reset with cpu := { Cpu.reset with a := 0x3a, b := 0xc6 } }) [0x80] (fun t => (t.cpu.a, t.flags, t.cycles)) =
      some (0x00, 0xB0, 4) := by
  decide +kernel

/-- 95_test_vectors.md section 2.4. -/
theorem test_add_a :
    ran ({ State.reset with cpu := { Cpu.reset with a := 0x80 } }) [0x87] (fun t => (t.cpu.a, t.flags, t.cycles)) =
      some (0x00, 0x90, 4) := by
  decide +kernel

/-- 95_test_vectors.md section 2.4. -/
theorem test_adc_imm :
    ran ({ State.reset with cpu := { Cpu.reset with a := 0xe1, f := 0x10 } }) [0xCE, 0x1E] (fun t => (t.cpu.a, t.flags, t.cycles)) =
      some (0x00, 0xB0, 8) := by
  decide +kernel

/-- 42_alu8.md R152, example. -/
theorem test_adc_e :
    ran ({ State.reset with cpu := { Cpu.reset with a := 0xe1, e := 0xf, f := 0x10 } }) [0x8B] (fun t => (t.cpu.a, t.flags, t.cycles)) =
      some (0xF1, 0x20, 4) := by
  decide +kernel

/-- 95_test_vectors.md section 2.4. -/
theorem test_sub_imm :
    ran ({ State.reset with cpu := { Cpu.reset with a := 0x3e } }) [0xD6, 0x40] (fun t => (t.cpu.a, t.flags, t.cycles)) =
      some (0xFE, 0x50, 8) := by
  decide +kernel

/-- 42_alu8.md R153, example. -/
theorem test_sub_e :
    ran ({ State.reset with cpu := { Cpu.reset with a := 0x3e, e := 0x3e } }) [0x93] (fun t => (t.cpu.a, t.flags, t.cycles)) =
      some (0x00, 0xC0, 4) := by
  decide +kernel

/-- 42_alu8.md R154, example. -/
theorem test_sbc_h :
    ran ({ State.reset with cpu := { Cpu.reset with a := 0x3b, h := 0x2a, f := 0x10 } }) [0x9C] (fun t => (t.cpu.a, t.flags, t.cycles)) =
      some (0x10, 0x40, 4) := by
  decide +kernel

/-- 95_test_vectors.md section 2.4. -/
theorem test_sbc_imm :
    ran ({ State.reset with cpu := { Cpu.reset with a := 0, f := 0x10 } }) [0xDE, 0xFF] (fun t => (t.cpu.a, t.flags, t.cycles)) =
      some (0x00, 0xF0, 8) := by
  decide +kernel

/-- 42_alu8.md R155, example. -/
theorem test_and_l :
    ran ({ State.reset with cpu := { Cpu.reset with a := 0x5a, l := 0x3f } }) [0xA5] (fun t => (t.cpu.a, t.flags, t.cycles)) =
      some (0x1A, 0x20, 4) := by
  decide +kernel

/-- 42_alu8.md R156, example. -/
theorem test_xor_imm :
    ran ({ State.reset with cpu := { Cpu.reset with a := 0xff } }) [0xEE, 0x0F] (fun t => (t.cpu.a, t.flags, t.cycles)) =
      some (0xF0, 0x00, 8) := by
  decide +kernel

/-- 95_test_vectors.md section 2.4. -/
theorem test_or_imm :
    ran ({ State.reset with cpu := { Cpu.reset with a := 0x5a } }) [0xF6, 0x03] (fun t => (t.cpu.a, t.flags, t.cycles)) =
      some (0x5B, 0x00, 8) := by
  decide +kernel

/-- 42_alu8.md R158, example. -/
theorem test_cp_imm :
    ran ({ State.reset with cpu := { Cpu.reset with a := 0x3c } }) [0xFE, 0x40] (fun t => (t.cpu.a, t.flags, t.cycles)) =
      some (0x3C, 0x50, 8) := by
  decide +kernel

/-- 95_test_vectors.md section 2.4. -/
theorem test_cp_at_hl :
    ran (({ State.reset with cpu := { Cpu.reset with a := 0x40, h := 0xc0, l := 0 } } : State).holding [(0xC000, 0x40)]) [0xBE] (fun t => (t.cpu.a, t.flags, t.cycles)) =
      some (0x40, 0xC0, 8) := by
  decide +kernel

/-- 95_test_vectors.md section 2.4. -/
theorem test_inc_a :
    ran ({ State.reset with cpu := { Cpu.reset with a := 0xff, f := 0x10 } }) [0x3C] (fun t => (t.cpu.a, t.flags, t.cycles)) =
      some (0x00, 0xB0, 4) := by
  decide +kernel

/-- 95_test_vectors.md section 2.4. -/
theorem test_inc_at_hl :
    ran (({ State.reset with cpu := { Cpu.reset with h := 0xc0, l := 0, f := 0 } } : State).holding [(0xC000, 0xFF)]) [0x34] (fun t => (t.at 0xC000, t.flags, t.cycles)) =
      some (0x00, 0xA0, 12) := by
  decide +kernel

/-- 95_test_vectors.md section 2.4. -/
theorem test_dec_d :
    ran ({ State.reset with cpu := { Cpu.reset with d := 0x10, f := 0 } }) [0x15] (fun t => (t.cpu.d, t.flags, t.cycles)) =
      some (0x0F, 0x60, 4) := by
  decide +kernel

/-- 95_test_vectors.md section 2.4. -/
theorem test_dec_at_hl :
    ran (({ State.reset with cpu := { Cpu.reset with h := 0xc0, l := 0, f := 0 } } : State).holding [(0xC000, 0x00)]) [0x35] (fun t => (t.at 0xC000, t.flags, t.cycles)) =
      some (0xFF, 0x60, 12) := by
  decide +kernel

/-- 95_test_vectors.md section 2.4. -/
theorem test_daa_after_add :
    ran ({ State.reset with cpu := { Cpu.reset with a := 0x9a, f := 0 } }) [0x27] (fun t => (t.cpu.a, t.flags, t.cycles)) =
      some (0x00, 0x90, 4) := by
  decide +kernel

/-- 95_test_vectors.md section 2.4. -/
theorem test_daa_after_sub :
    ran ({ State.reset with cpu := { Cpu.reset with a := 0xff, f := 0x70 } }) [0x27] (fun t => (t.cpu.a, t.flags, t.cycles)) =
      some (0x99, 0x50, 4) := by
  decide +kernel

/-- 95_test_vectors.md section 2.4. -/
theorem test_cpl :
    ran ({ State.reset with cpu := { Cpu.reset with a := 0x35, f := 0x90 } }) [0x2F] (fun t => (t.cpu.a, t.flags, t.cycles)) =
      some (0xCA, 0xF0, 4) := by
  decide +kernel

/-- 42_alu8.md R163, example. -/
theorem test_scf :
    ran ({ State.reset with cpu := { Cpu.reset with f := 0xe0 } }) [0x37] (fun t => (t.flags, t.cycles)) =
      some (0x90, 4) := by
  decide +kernel

/-- 42_alu8.md R164, example. -/
theorem test_ccf :
    ran ({ State.reset with cpu := { Cpu.reset with f := 0xb0 } }) [0x3F] (fun t => (t.flags, t.cycles)) =
      some (0x80, 4) := by
  decide +kernel

/-- 95_test_vectors.md section 2.5. -/
theorem test_add_hl_bc :
    ran ({ State.reset with cpu := { Cpu.reset with h := 0x8a, l := 0x23, b := 6, c := 5, f := 0x80 } }) [0x09] (fun t => (t.hl, t.flags, t.cycles)) =
      some (0x9028, 0xA0, 8) := by
  decide +kernel

/-- 95_test_vectors.md section 2.5. -/
theorem test_add_hl_hl :
    ran ({ State.reset with cpu := { Cpu.reset with h := 0x8a, l := 0x23, f := 0 } }) [0x29] (fun t => (t.hl, t.flags, t.cycles)) =
      some (0x1446, 0x30, 8) := by
  decide +kernel

/-- 95_test_vectors.md section 2.5. -/
theorem test_inc_bc_wraps :
    ran ({ State.reset with cpu := { Cpu.reset with b := 0xff, c := 0xff } }) [0x03] (fun t => (t.pair .bc, t.flags, t.cycles)) =
      some (0x0000, 0xB0, 8) := by
  decide +kernel

/-- 95_test_vectors.md section 2.5. -/
theorem test_dec_de_wraps :
    ran ({ State.reset with cpu := { Cpu.reset with d := 0, e := 0 } }) [0x1B] (fun t => (t.pair .de, t.flags, t.cycles)) =
      some (0xFFFF, 0xB0, 8) := by
  decide +kernel

/-- 95_test_vectors.md section 2.5. -/
theorem test_add_sp :
    ran ({ State.reset with cpu := { Cpu.reset with sp := 0xfff8 } }) [0xE8, 0x08] (fun t => (t.cpu.sp, t.flags, t.cycles)) =
      some (0x0000, 0x30, 16) := by
  decide +kernel

/-- 95_test_vectors.md section 2.5. -/
theorem test_add_sp_negative :
    ran ({ State.reset with cpu := { Cpu.reset with sp := 0 } }) [0xE8, 0xFF] (fun t => (t.cpu.sp, t.flags, t.cycles)) =
      some (0xFFFF, 0x00, 16) := by
  decide +kernel

/-- 44_rotate_shift_bit.md R169, example. -/
theorem test_rlca :
    ran ({ State.reset with cpu := { Cpu.reset with a := 0x85 } }) [0x07] (fun t => (t.cpu.a, t.flags, t.cycles)) =
      some (0x0B, 0x10, 4) := by
  decide +kernel

/-- 44_rotate_shift_bit.md R170, example. -/
theorem test_rrca :
    ran ({ State.reset with cpu := { Cpu.reset with a := 0x3b } }) [0x0F] (fun t => (t.cpu.a, t.flags, t.cycles)) =
      some (0x9D, 0x10, 4) := by
  decide +kernel

/-- 44_rotate_shift_bit.md R171, example. -/
theorem test_rla :
    ran ({ State.reset with cpu := { Cpu.reset with a := 0x95, f := 0x10 } }) [0x17] (fun t => (t.cpu.a, t.flags, t.cycles)) =
      some (0x2B, 0x10, 4) := by
  decide +kernel

/-- 44_rotate_shift_bit.md R172, example. -/
theorem test_rra :
    ran ({ State.reset with cpu := { Cpu.reset with a := 0x81, f := 0 } }) [0x1F] (fun t => (t.cpu.a, t.flags, t.cycles)) =
      some (0x40, 0x10, 4) := by
  decide +kernel

/-- 44_rotate_shift_bit.md R174, example. -/
theorem test_rlc_b :
    ran ({ State.reset with cpu := { Cpu.reset with b := 0x85 } }) [0xCB, 0x00] (fun t => (t.cpu.b, t.flags, t.cycles)) =
      some (0x0B, 0x10, 8) := by
  decide +kernel

/-- 95_test_vectors.md section 2.6. -/
theorem test_rlc_at_hl :
    ran (({ State.reset with cpu := { Cpu.reset with h := 0xc0, l := 0 } } : State).holding [(0xC000, 0x80)]) [0xCB, 0x06] (fun t => (t.at 0xC000, t.flags, t.cycles)) =
      some (0x01, 0x10, 16) := by
  decide +kernel

/-- 44_rotate_shift_bit.md R175, example. -/
theorem test_rrc_c :
    ran ({ State.reset with cpu := { Cpu.reset with c := 1 } }) [0xCB, 0x09] (fun t => (t.cpu.c, t.flags, t.cycles)) =
      some (0x80, 0x10, 8) := by
  decide +kernel

/-- 44_rotate_shift_bit.md R176, example. -/
theorem test_rl_l :
    ran ({ State.reset with cpu := { Cpu.reset with l := 0x80, f := 0 } }) [0xCB, 0x15] (fun t => (t.cpu.l, t.flags, t.cycles)) =
      some (0x00, 0x90, 8) := by
  decide +kernel

/-- 44_rotate_shift_bit.md R177, example. -/
theorem test_rr_a :
    ran ({ State.reset with cpu := { Cpu.reset with a := 1, f := 0 } }) [0xCB, 0x1F] (fun t => (t.cpu.a, t.flags, t.cycles)) =
      some (0x00, 0x90, 8) := by
  decide +kernel

/-- 44_rotate_shift_bit.md R178, example. -/
theorem test_sla_d :
    ran ({ State.reset with cpu := { Cpu.reset with d := 0x80 } }) [0xCB, 0x22] (fun t => (t.cpu.d, t.flags, t.cycles)) =
      some (0x00, 0x90, 8) := by
  decide +kernel

/-- 44_rotate_shift_bit.md R179, example. -/
theorem test_sra_a :
    ran ({ State.reset with cpu := { Cpu.reset with a := 0x8a } }) [0xCB, 0x2F] (fun t => (t.cpu.a, t.flags, t.cycles)) =
      some (0xC5, 0x00, 8) := by
  decide +kernel

/-- 44_rotate_shift_bit.md R180, example. -/
theorem test_swap_a :
    ran ({ State.reset with cpu := { Cpu.reset with a := 0xf1, f := 0x10 } }) [0xCB, 0x37] (fun t => (t.cpu.a, t.flags, t.cycles)) =
      some (0x1F, 0x00, 8) := by
  decide +kernel

/-- 44_rotate_shift_bit.md R181, example. -/
theorem test_srl_a :
    ran ({ State.reset with cpu := { Cpu.reset with a := 0xff } }) [0xCB, 0x3F] (fun t => (t.cpu.a, t.flags, t.cycles)) =
      some (0x7F, 0x10, 8) := by
  decide +kernel

/-- 44_rotate_shift_bit.md R182, example. -/
theorem test_bit_7_a :
    ran ({ State.reset with cpu := { Cpu.reset with a := 0x80, f := 0x10 } }) [0xCB, 0x7F] (fun t => (t.flags, t.cycles)) =
      some (0x30, 8) := by
  decide +kernel

/-- 95_test_vectors.md section 2.6. -/
theorem test_bit_0_at_hl :
    ran (({ State.reset with cpu := { Cpu.reset with h := 0xc0, l := 0, f := 0 } } : State).holding [(0xC000, 0x01)]) [0xCB, 0x46] (fun t => (t.flags, t.cycles)) =
      some (0x20, 12) := by
  decide +kernel

/-- 44_rotate_shift_bit.md R183, example. -/
theorem test_res_3_at_hl :
    ran (({ State.reset with cpu := { Cpu.reset with h := 0xc0, l := 0 } } : State).holding [(0xC000, 0xFF)]) [0xCB, 0x9E] (fun t => (t.at 0xC000, t.flags, t.cycles)) =
      some (0xF7, 0xB0, 16) := by
  decide +kernel

/-- 44_rotate_shift_bit.md R184, example. -/
theorem test_set_7_a :
    ran ({ State.reset with cpu := { Cpu.reset with a := 0 } }) [0xCB, 0xFF] (fun t => (t.cpu.a, t.flags, t.cycles)) =
      some (0x80, 0xB0, 8) := by
  decide +kernel

/-- 95_test_vectors.md section 2.7. -/
theorem test_jp :
    ran ({ State.reset with cpu := { Cpu.reset with pc := 0x200 } }) [0xC3, 0x34, 0x12] (fun t => (t.cpu.pc, t.cycles)) =
      some (0x1234, 16) := by
  decide +kernel

/-- 95_test_vectors.md section 2.7. -/
theorem test_jp_z_untaken :
    ran ({ State.reset with cpu := { Cpu.reset with pc := 0x200, f := 0 } }) [0xCA, 0x34, 0x12] (fun t => (t.cpu.pc, t.cycles)) =
      some (0x0203, 12) := by
  decide +kernel

/-- 95_test_vectors.md section 2.7. -/
theorem test_jp_z_taken :
    ran ({ State.reset with cpu := { Cpu.reset with pc := 0x200, f := 0x80 } }) [0xCA, 0x34, 0x12] (fun t => (t.cpu.pc, t.cycles)) =
      some (0x1234, 16) := by
  decide +kernel

/-- 45_control.md R188, example. -/
theorem test_jp_hl :
    ran ({ State.reset with cpu := { Cpu.reset with h := 0x40, l := 0 } }) [0xE9] (fun t => (t.cpu.pc, t.cycles)) =
      some (0x4000, 4) := by
  decide +kernel

/-- 95_test_vectors.md section 2.7. -/
theorem test_jr_back :
    ran ({ State.reset with cpu := Cpu.reset }) [0x18, 0x80] (fun t => (t.cpu.pc, t.cycles)) =
      some (0x0082, 12) := by
  decide +kernel

/-- 95_test_vectors.md section 2.7. -/
theorem test_jr_nz_taken :
    ran ({ State.reset with cpu := { Cpu.reset with pc := 0x105, f := 0 } }) [0x20, 0xFC] (fun t => (t.cpu.pc, t.cycles)) =
      some (0x0103, 12) := by
  decide +kernel

/-- 95_test_vectors.md section 2.7. -/
theorem test_jr_nz_untaken :
    ran ({ State.reset with cpu := { Cpu.reset with pc := 0x105, f := 0x80 } }) [0x20, 0xFC] (fun t => (t.cpu.pc, t.cycles)) =
      some (0x0107, 8) := by
  decide +kernel

/-- 95_test_vectors.md section 2.7. -/
theorem test_call :
    ran ({ State.reset with cpu := { Cpu.reset with pc := 0x200 } }) [0xCD, 0x00, 0x30] (fun t => (t.at 0xFFFD, t.at 0xFFFC, t.cpu.sp, t.cpu.pc, t.cycles)) =
      some (0x02, 0x03, 0xFFFC, 0x3000, 24) := by
  decide +kernel

/-- 95_test_vectors.md section 2.7. -/
theorem test_call_nc_untaken :
    ran ({ State.reset with cpu := { Cpu.reset with pc := 0x200, f := 0x10 } }) [0xD4, 0x00, 0x30] (fun t => (t.cpu.sp, t.cpu.pc, t.cycles)) =
      some (0xFFFE, 0x0203, 12) := by
  decide +kernel

/-- 95_test_vectors.md section 2.7. -/
theorem test_ret :
    ran (({ State.reset with cpu := { Cpu.reset with sp := 0xfffc } } : State).holding [(0xFFFC, 0x03), (0xFFFD, 0x02)]) [0xC9] (fun t => (t.cpu.pc, t.cpu.sp, t.cycles)) =
      some (0x0203, 0xFFFE, 16) := by
  decide +kernel

/-- 95_test_vectors.md section 2.7. -/
theorem test_ret_c_taken :
    ran (({ State.reset with cpu := { Cpu.reset with sp := 0xfffc, f := 0x10 } } : State).holding [(0xFFFC, 0x03), (0xFFFD, 0x02)]) [0xD8] (fun t => (t.cpu.pc, t.cpu.sp, t.cycles)) =
      some (0x0203, 0xFFFE, 20) := by
  decide +kernel

/-- 95_test_vectors.md section 2.7. -/
theorem test_ret_c_untaken :
    ran ({ State.reset with cpu := { Cpu.reset with sp := 0xfffc, f := 0 } }) [0xD8] (fun t => (t.cpu.pc, t.cpu.sp, t.cycles)) =
      some (0x0101, 0xFFFC, 8) := by
  decide +kernel

/-- 95_test_vectors.md section 2.7. -/
theorem test_reti :
    ran (({ State.reset with cpu := { Cpu.reset with sp := 0xfffc } } : State).holding [(0xFFFC, 0x03), (0xFFFD, 0x02)]) [0xD9] (fun t => (t.cpu.pc, t.cpu.sp, t.cpu.ime, t.cycles)) =
      some (0x0203, 0xFFFE, true, 16) := by
  decide +kernel

/-- 95_test_vectors.md section 2.7. -/
theorem test_rst_38 :
    ran ({ State.reset with cpu := { Cpu.reset with pc := 0x150 } }) [0xFF] (fun t => (t.at 0xFFFD, t.at 0xFFFC, t.cpu.sp, t.cpu.pc, t.cycles)) =
      some (0x01, 0x51, 0xFFFC, 0x0038, 16) := by
  decide +kernel

/-- 46_system.md R198, example. -/
theorem test_nop :
    ran ({ State.reset with cpu := Cpu.reset }) [0x00] (fun t => (t.cpu.pc, t.cycles)) =
      some (0x0101, 4) := by
  decide +kernel

/-- 95_test_vectors.md section 2.8. -/
theorem test_di :
    ran ({ State.reset with cpu := { Cpu.reset with ime := true, imePending := true } }) [0xF3] (fun t => (t.cpu.ime, t.cpu.imePending, t.cycles)) =
      some (false, false, 4) := by
  decide +kernel

/-- 46_system.md R200. -/
theorem test_ei :
    ran ({ State.reset with cpu := Cpu.reset }) [0xFB] (fun t => (t.cpu.ime, t.cpu.imePending, t.cycles)) =
      some (false, true, 4) := by
  decide +kernel

/-- 95_test_vectors.md section 2.8. -/
theorem test_halt :
    ran (({ State.reset with cpu := Cpu.reset, irq := ⟨false, false, false, false, false⟩ } : State).holding [(0xFFFF, 0x01)]) [0x76] (fun t => (t.cpu.halted, t.cpu.haltBug, t.cycles)) =
      some (true, false, 4) := by
  decide +kernel

/-- 95_test_vectors.md section 2.8. -/
theorem test_halt_bug :
    ran (({ State.reset with cpu := Cpu.reset } : State).holding [(0xFFFF, 0x01)]) [0x76] (fun t => (t.cpu.halted, t.cpu.haltBug, t.cycles)) =
      some (false, true, 4) := by
  decide +kernel

/-- 95_test_vectors.md P6. -/
theorem test_halt_bug_fetch :
    ran ({ State.reset with cpu := { Cpu.reset with a := 0, haltBug := true } }) [0x3C] (fun t => (t.cpu.a, t.cpu.pc, t.cpu.haltBug, t.cycles)) =
      some (0x01, 0x0100, false, 4) := by
  decide +kernel

/-- 95_test_vectors.md section 2.8. -/
theorem test_stop :
    ran ({ State.reset with cpu := Cpu.reset, joypad := ⟨0b10, 0xF⟩ }) [0x10, 0x00] (fun t => (t.cpu.stopped, t.cpu.pc, t.cycles, t.timer.sysCounter)) =
      some (true, 0x0102, 8, 0x0000) := by
  decide +kernel

/-- 95_test_vectors.md section 2.8. -/
theorem test_stop_speed_switch :
    ran ({ State.reset with cpu := Cpu.reset, model := .cgb, speedArmed := true }) [0x10, 0x00] (fun t => (t.key1, t.timer.sysCounter, t.cpu.stallCount, t.cycles)) =
      some (0xFE, 0x0000, 2050, 8) := by
  decide +kernel

/-- 95_test_vectors.md section 2.8. -/
theorem test_illegal :
    ran ({ State.reset with cpu := { Cpu.reset with pc := 0x150 } }) [0xDD] (fun t => (t.cpu.lockedUp, t.cpu.pc, t.cycles)) =
      some (true, 0x0151, 4) := by
  decide +kernel

/-- 95_test_vectors.md section 2.9. -/
theorem test_dispatch_stat :
    ran (({ State.reset with cpu := { Cpu.reset with pc := 0x200, ime := true }, irq := Requests.ofByte 0x06 } : State).holding [(0xFFFF, 0x1F)]) [] (fun t => (t.cpu.pc, (t.irq.vblank, t.irq.timer, t.irq.serial, t.irq.joypad), t.cpu.ime, t.at 0xFFFD, t.at 0xFFFC)) =
      some (0x0048, (false, true, false, false), false, 0x02, 0x00) := by
  decide +kernel

/-- 95_test_vectors.md section 2.9. -/
theorem test_dispatch_not_enabled :
    ran (({ State.reset with cpu := { Cpu.reset with ime := true }, irq := Requests.ofByte 0x07 } : State).holding [(0xFFFF, 0x04)]) [] (fun t => (t.cpu.pc, (t.irq.vblank, t.irq.timer, t.irq.serial, t.irq.joypad), t.cycles)) =
      some (0x0050, (true, false, false, false), 20) := by
  decide +kernel

/-- 60_exceptions.md R214. -/
theorem test_dispatch_ie_push :
    ran (({ State.reset with cpu := { Cpu.reset with pc := 0x1034, sp := 0, ime := true }, irq := Requests.ofByte 0x01 } : State).holding [(0xFFFF, 0x01)]) [] (fun t => (t.cpu.pc, (t.irq.vblank, t.irq.timer, t.irq.serial, t.irq.joypad), t.ie, t.cpu.sp, t.at 0xFFFE)) =
      some (0x0000, (true, false, false, false), 0x10, 0xFFFE, 0x34) := by
  decide +kernel

/-- 95_test_vectors.md section 2.9. -/
theorem test_dispatch_ie_repush :
    ran (({ State.reset with cpu := { Cpu.reset with pc := 0x401, sp := 0, ime := true }, irq := Requests.ofByte 0x05 } : State).holding [(0xFFFF, 0x05)]) [] (fun t => (t.cpu.pc, (t.irq.vblank, t.irq.timer, t.irq.serial, t.irq.joypad), t.ie, t.cpu.sp, t.at 0xFFFE)) =
      some (0x0050, (true, false, false, false), 0x04, 0xFFFE, 0x01) := by
  decide +kernel

/-- 95_test_vectors.md section 2.9. -/
theorem test_dispatch_ie_late :
    ran (({ State.reset with cpu := { Cpu.reset with pc := 0x1234, sp := 1, ime := true }, irq := Requests.ofByte 0x01 } : State).holding [(0xFFFF, 0x01)]) [] (fun t => (t.cpu.pc, (t.irq.vblank, t.irq.timer, t.irq.serial, t.irq.joypad), t.ie, t.cpu.sp, t.cycles)) =
      some (0x0040, (false, false, false, false), 0x34, 0xFFFF, 20) := by
  decide +kernel

/-- 95_test_vectors.md section 2.9. -/
theorem test_dispatch_halt_bug :
    ran (({ State.reset with cpu := { Cpu.reset with pc := 0x101, haltBug := true, ime := true } } : State).holding [(0xFFFF, 0x01)]) [] (fun t => (t.at 0xFFFD, t.at 0xFFFC, t.cpu.pc, t.cpu.haltBug, t.cycles)) =
      some (0x01, 0x00, 0x0040, false, 20) := by
  decide +kernel

/-- 95_test_vectors.md section 2.9. -/
theorem test_no_dispatch :
    ran (({ State.reset with cpu := { Cpu.reset with ime := true } } : State).holding [(0xFFFF, 0xE0)]) [0x00] (fun t => (t.cpu.pc, t.cycles)) =
      some (0x0101, 4) := by
  decide +kernel

/-- 95_test_vectors.md section 2.10, T1. -/
theorem test_timer_overflow :
    ran ({ State.reset with cpu := Cpu.reset, timer := ⟨0x000C, 0xFF, 0x80, 5, false, false, false⟩ }) [0x00] (fun t => (t.timer)) =
      some (⟨0x0010, 0x00, 0x80, 5, false, true, false⟩) := by
  decide +kernel

/-- 95_test_vectors.md section 2.10, T6. -/
theorem test_timer_div_edge :
    ran ({ State.reset with cpu := { Cpu.reset with h := 0xff, l := 4 }, timer := ⟨0x0004, 0x10, 0x80, 5, false, false, false⟩ }) [0x70] (fun t => (t.timer.sysCounter, t.timer.tima)) =
      some (0x0004, 0x11) := by
  decide +kernel

/-- 95_test_vectors.md section 2.10, T7. -/
theorem test_timer_disable_edge :
    ran ({ State.reset with cpu := { Cpu.reset with h := 0xff, l := 7, b := 1 }, timer := ⟨0x0004, 0x10, 0x80, 5, false, false, false⟩ }) [0x70] (fun t => (t.timer.tima)) =
      some (0x11) := by
  decide +kernel

/-- 95_test_vectors.md section 2.10, T8. -/
theorem test_div_read :
    ran ({ State.reset with cpu := Cpu.reset }) [0xF0, 0x04] (fun t => (t.cpu.a)) =
      some (0xAB) := by
  decide +kernel

/-- 95_test_vectors.md section 2.10, T1, M1. -/
theorem test_timer_reload :
    ran ({ State.reset with cpu := Cpu.reset, irq := ⟨false, false, false, false, false⟩, timer := ⟨0x0010, 0x00, 0x80, 5, false, true, false⟩ }) [0x00] (fun t => (t.timer, (t.irq.vblank, t.irq.timer, t.irq.serial, t.irq.joypad))) =
      some (⟨0x0014, 0x80, 0x80, 5, false, false, true⟩, (false, true, false, false)) := by
  decide +kernel

/-- 60_exceptions.md R226. -/
theorem test_serial_start :
    ran ({ State.reset with cpu := { Cpu.reset with a := 0x81 } }) [0xE0, 0x02] (fun t => (t.serial.busy, t.serial.internal, t.serial.bits)) =
      some (true, true, 0) := by
  decide +kernel

/-- 60_exceptions.md R226, R227. -/
theorem test_serial_peer_bit :
    ran ({ State.reset with cpu := Cpu.reset, serial := ⟨0x81, true, false, true, 508, 7⟩, host := { State.reset.host with peer := ⟨[false, true], []⟩ } }) [0x00] (fun t => (t.serial, t.irq.serial, t.host.peer)) =
      some (⟨0x02, false, false, true, 0, 0⟩, true, ⟨[true], []⟩) := by
  decide +kernel

/-- 60_exceptions.md R226, R227. -/
theorem test_serial_peer_clock :
    ran ({ State.reset with cpu := Cpu.reset, serial := ⟨0x81, true, false, false, 0, 0⟩, host := { State.reset.host with peer := ⟨[], [true]⟩ } }) [0x00] (fun t => (t.serial, t.irq.serial)) =
      some (⟨0x03, true, false, false, 0, 1⟩, false) := by
  decide +kernel

/-- 95_test_vectors.md section 2.12. -/
theorem test_unusable_write :
    ran ({ State.reset with cpu := { Cpu.reset with h := 0xfe, l := 0xa5, b := 0x55 } }) [0x70] (fun t => (t.oam, t.cycles)) =
      some ([], 8) := by
  decide +kernel

/-- 95_test_vectors.md section 2.12. -/
theorem test_mbc1_bank :
    ran ({ State.reset with cpu := { Cpu.reset with h := 0x20, l := 0, b := 0x20 }, cart := { Cart.plain with info := ⟨.mbc1, false, false, false, 4, 0, 0⟩ } }) [0x70] (fun t => (t.cart.bank1, t.cart.romxBank)) =
      some (1, 1) := by
  decide +kernel

/-- 95_test_vectors.md section 2.12. -/
theorem test_mbc5_bank :
    ran ({ State.reset with cpu := { Cpu.reset with h := 0x20, l := 0, b := 0 }, cart := { Cart.plain with info := ⟨.mbc5, false, false, false, 4, 0, 0⟩ } }) [0x70] (fun t => (t.cart.romxBank)) =
      some (0) := by
  decide +kernel

/-- 95_test_vectors.md section 2.12. -/
theorem test_mbc2_nibble :
    ran ({ State.reset with cpu := { Cpu.reset with h := 0xa2, l := 1, b := 0xab }, cart := { Cart.plain with info := ⟨.mbc2, true, false, false, 4, 0, 512⟩, ramEnabled := true } }) [0x70] (fun t => (t.at 0xA001)) =
      some (0xFB) := by
  decide +kernel

/-! Stalls, the host and the boot ROM. -/

/-- 46_system.md R204, 70_reset_and_hazards.md R259: a stall M-cycle in stop mode keeps the system counter, and DIV. -/
theorem test_stall_in_stop_mode :
    ran ({ State.reset with cpu := { Cpu.reset with stopped := true, stallCount := 8 } }) [] (fun t =>
      (t.cpu.stallCount, t.timer.sysCounter, t.cpu.stopped)) = some (7, 0xABCC, true) := by
  decide +kernel

/-- 60_exceptions.md R238: the flags of the log for an opcode fetch, an operand fetch and a data access, newest first. -/
theorem test_code_data_flags :
    ran (State.setHooks { State.reset with cpu := { Cpu.reset with h := 0xC0, l := 0x00 } } { HostSide.initial.hooks with codeData := true })
      [0x36, 0x55] (fun t => t.host.events.map fun e => match e with
        | .call (.codeData _ _ flag) => some flag
        | _ => none) = some [some 0x04, some 0x02, some 0x01] := by
  decide +kernel

/-- 00_scope.md R25, 60_exceptions.md R236: a call from a hook that is not allowed there refuses the step. -/
theorem test_hook_misuse :
    refusalOf (step ((State.placeBytes { State.reset with host := { HostSide.initial with replies := [⟨0, [.otherCall]⟩] } } 0x0100
      [0x00]).setHooks { HostSide.initial.hooks with exec := true })) = some .hookMisuse := by
  decide +kernel

/-- 70_reset_and_hazards.md R246: a stored boot ROM takes effect at the next reset, not while the one before is mapped. -/
theorem test_boot_rom_stored :
    let s : State := { State.reset with bios := true, bootMapped := true, bootRom := [0x31], bootDmg := [0x77] }
    (s.at 0x0000, s.afterReset.at 0x0000) = (0x31, 0x77) := by
  decide +kernel

/-! Machines that meet the hypotheses of the statements of Obligations.lean, one theorem per statement that has any, with a machine for
each of its clauses. -/

/-- The machine after reset with NOP at PC. -/
def nop : State := State.reset.placeBytes 0x0100 [0x00]

/-- The machine after reset with NOP at PC and the CPU's state changed. -/
def cpuOf (f : Cpu → Cpu) : State := { nop with cpu := f nop.cpu }

theorem quiet_nop (f : Cpu → Cpu) : (cpuOf f).Quiet := ⟨rfl, rfl, rfl, rfl, rfl⟩

/-- A host with no replies makes no refused call. -/
theorem behaves_of_no_replies {s : State} (h : s.host.replies = []) : s.HooksBehave := by
  intro r hr; rw [h] at hr; cases hr

/-- A CPU that only has other registers runs instructions. -/
theorem runs_nop (a f : Byte) (sp pc : Addr) : (cpuOf fun c => { c with a := a, f := f, sp := sp, pc := pc }).RunsInstr :=
  ⟨⟨rfl, rfl, rfl, rfl, rfl, rfl⟩, rfl⟩

theorem cpu_nop : nop.cpu.Inv := ⟨by decide, by decide, by decide⟩

theorem data_nop : nop.DataInv where
  oamDma := ⟨by decide, fun h => absurd h (by decide)⟩
  hdma := by decide
  serial := by decide
  banks := ⟨fun h => absurd h (by decide), fun h => absurd h (by decide)⟩
  stores := ⟨by decide, rfl, rfl, rfl, rfl, rfl, by decide⟩

theorem inv_nop (tick : Nat) (h : tick % 2 = 0) (k : tick < Config.frameTicks) : State.Inv { nop with ppu := ⟨0x91, tick⟩ } where
  cpu := cpu_nop
  data := ⟨data_nop.oamDma, data_nop.hdma, data_nop.serial, data_nop.banks, data_nop.stores⟩
  clock := ⟨rfl, h, k⟩
  cycles := rfl
  event := fun _ h => nomatch h
  romBanks := Nat.le_refl 2

theorem witness_DecodeTotal : instrLength 0x3E ≤ [(0x5A : Byte)].length + 1 ∧ ([] : List Byte).length + 1 < instrLength 0x3E := by decide

theorem witness_EncodeDecode : decode [0x3E, 0x5A, 0x00] = .ok (.ldAImm 0x5A, [0x00]) := by decide +kernel

theorem witness_StepRunsDecoded : nop.RunsInstr ∧ nop.HooksBehave ∧ decode nop.startInstr.fetchInstr.1 = .ok (.nop, []) :=
  ⟨⟨⟨rfl, rfl, rfl, rfl, rfl, rfl⟩, rfl⟩, behaves_of_no_replies rfl, by decide +kernel⟩

theorem witness_StepRunsMemory : ∃ s : State, s.RunsInstr ∧ s.Quiet ∧ s.cpu.haltBug = false ∧
    s.codeBytes s.cpu.pc (encode (.ldSPImm16 0xFFFE)).length = some (encode (.ldSPImm16 0xFFFE)) :=
  ⟨State.reset.placeBytes 0x0100 [0x31, 0xFE, 0xFF], ⟨⟨rfl, rfl, rfl, rfl, rfl, rfl⟩, rfl⟩, ⟨rfl, rfl, rfl, rfl, rfl⟩, rfl,
    by decide +kernel⟩

/-- Hooks that behave, with a write from a hook; hooks that do not; and the mark set. -/
theorem witness_StepAnswers : nop.loaded = true ∧ nop.host.refusedMark = false ∧
    State.HooksBehave { nop with host := { nop.host with replies := [⟨0, [.externalWrite 0xC000 0x55]⟩] } } ∧
    ¬ State.HooksBehave { nop with host := { nop.host with replies := [⟨0, [.otherCall]⟩] } } ∧
    ∃ s : State, s.loaded = true ∧ s.host.refusedMark = true :=
  ⟨rfl, rfl, by unfold State.HooksBehave; decide, by unfold State.HooksBehave; decide,
    { nop with host := { nop.host with refusedMark := true } }, rfl, rfl⟩

theorem witness_InvStep : ∃ s t : State, s.Inv ∧ step s = .next t := by
  obtain ⟨t, h, -⟩ := of_observed (show ran { nop with ppu := ⟨0x91, 0⟩ } [] (·.cycles) = some 4 by decide +kernel)
  exact ⟨_, t, inv_nop 0 rfl (by decide), h⟩

theorem witness_InvAfterReset : ∃ s : State, s.Inv := ⟨_, inv_nop 0 rfl (by decide)⟩

/-- A conditional branch, taken and not taken; the hooks behave by `behaves_of_no_replies`. -/
theorem witness_InstrCycles : ∃ s t : State, s.RunsInstr ∧ s.nextInstr = some (.jrNZDisp 0x00) ∧ s.cond .nz = true ∧ s.host.replies = [] ∧
    t.RunsInstr ∧ t.nextInstr = some (.jrNZDisp 0x00) ∧ t.cond .nz = false ∧ t.host.replies = [] :=
  ⟨{ State.reset.placeBytes 0x0100 [0x20, 0x00] with cpu := { Cpu.reset with f := 0x00 } },
    { State.reset.placeBytes 0x0100 [0x20, 0x00] with cpu := { Cpu.reset with f := 0x80 } },
    ⟨⟨rfl, rfl, rfl, rfl, rfl, rfl⟩, rfl⟩, by decide +kernel, by decide, rfl, ⟨⟨rfl, rfl, rfl, rfl, rfl, rfl⟩, rfl⟩, by decide +kernel, by decide,
    rfl⟩

/-- The step with the frame event, two base ticks before it. -/
theorem witness_StepBounds : ∃ s t : State, s.Inv ∧ step s = .next t ∧ s.host.frameOffset = none ∧ t.host.frameOffset = some 1 := by
  obtain ⟨t, h, e⟩ := of_observed (show ran { nop with ppu := ⟨0x91, 65662⟩ } [] (·.host.frameOffset) = some (some 1) by decide +kernel)
  exact ⟨_, t, inv_nop 65662 rfl (by decide), h, rfl, e⟩

/-- A run without a frame event, and one with it. -/
theorem witness_RunForBounds : ∃ s t u v : State, s.Inv ∧ s.run 1 [] ⟨[], []⟩ = .next t ∧ t.host.frameOffset = none ∧
    t.host.stopRequested = false ∧ u.Inv ∧ u.run 1 [] ⟨[], []⟩ = .next v ∧ v.host.frameOffset = some 1 := by
  obtain ⟨t, h, e⟩ := of_observed (show observed (State.run { nop with ppu := ⟨0x91, 0⟩ } 1 [] ⟨[], []⟩)
    (fun t => (t.host.frameOffset, t.host.stopRequested)) = some (none, false) by decide +kernel)
  obtain ⟨v, k, g⟩ := of_observed (show observed (State.run { nop with ppu := ⟨0x91, 65662⟩ } 1 [] ⟨[], []⟩) (·.host.frameOffset) =
    some (some 1) by decide +kernel)
  have e' := Prod.ext_iff.1 e
  exact ⟨_, t, _, v, inv_nop 0 rfl (by decide), h, e'.1, e'.2, inv_nop 65662 rfl (by decide), k, g⟩

theorem witness_LockedForever : ∃ s : State, s.loaded = true ∧ s.host.refusedMark = false ∧ s.host.replies = [] ∧ s.cpu.lockedUp = true :=
  ⟨cpuOf fun c => { c with lockedUp := true }, rfl, rfl, rfl, rfl⟩

/-- A stall, and one in stop mode. -/
theorem witness_StallStep : ∀ stopped : Bool, ∃ s : State, s.loaded = true ∧ s.host.refusedMark = false ∧ s.HooksBehave ∧
    s.cpu.lockedUp = false ∧ s.cpu.stallCount = 1 ∧ s.cpu.stopped = stopped ∧ s.Quiet :=
  fun stopped => ⟨cpuOf fun c => { c with stallCount := 1, stopped := stopped }, rfl, rfl, behaves_of_no_replies rfl, rfl, rfl, rfl,
    rfl, rfl, rfl, rfl, rfl⟩

/-- No enabled request, and one. -/
theorem witness_HaltedStep : ∃ s t : State, (s.loaded = true ∧ s.host.refusedMark = false ∧ s.HooksBehave ∧ s.cpu.lockedUp = false ∧
    s.cpu.stallCount = 0 ∧ s.cpu.stopped = false ∧ s.cpu.halted = true ∧ s.pendingByte = 0 ∧ s.Quiet) ∧
    (t.loaded = true ∧ t.host.refusedMark = false ∧ t.HooksBehave ∧ t.cpu.lockedUp = false ∧ t.cpu.stallCount = 0 ∧
      t.cpu.stopped = false ∧ t.cpu.halted = true ∧ t.pendingByte ≠ 0 ∧ t.Quiet) :=
  ⟨cpuOf fun c => { c with halted := true }, { (cpuOf fun c => { c with halted := true }) with ie := 0x01 },
    ⟨rfl, rfl, behaves_of_no_replies rfl, rfl, rfl, rfl, rfl, by decide, rfl, rfl, rfl, rfl, rfl⟩,
    rfl, rfl, behaves_of_no_replies rfl, rfl, rfl, rfl, rfl, by decide, rfl, rfl, rfl, rfl, rfl⟩

/-- A poll that answers a mask, and no input-poll hook. -/
theorem witness_StopModeStep : ∀ poll : Bool, ∃ s : State, s.loaded = true ∧ s.host.refusedMark = false ∧ s.HooksBehave ∧
    s.cpu.lockedUp = false ∧ s.cpu.stallCount = 0 ∧ s.cpu.stopped = true ∧ s.host.hooks.inputPoll = poll ∧
    s.host.replies = if poll then [⟨0x80, []⟩] else [] := by
  intro poll
  refine ⟨{ nop with
    cpu := { nop.cpu with stopped := true }
    host := { nop.host with
      hooks := { nop.host.hooks with inputPoll := poll }
      replies := if poll then [⟨0x80, []⟩] else [] } }, rfl, rfl, ?_, rfl, rfl, rfl, rfl, rfl⟩
  cases poll <;> (unfold State.HooksBehave; decide)

/-- Each row of the table of R250. -/
theorem witness_ResetRegisters : ∀ (m : Model) (agb bios : Bool), ∃ s : State, s.model = m ∧ s.agbRegs = agb ∧ s.bios = bios :=
  fun m agb bios => ⟨{ nop with model := m, agbRegs := agb, bios := bios }, rfl, rfl, rfl⟩

theorem witness_ResetDevices : ∀ (m : Model) (bios : Bool), ∃ s : State, s.model = m ∧ s.bios = bios :=
  fun m bios => ⟨{ nop with model := m, bios := bios }, rfl, rfl⟩

theorem witness_ResetKeeps : Store.vram ≠ Store.cartRam ∧
    ∃ s : State, 0 < s.cart.info.ramBanks ∧ s.cart.info.kind ≠ .mbc2 :=
  ⟨by decide, { nop with cart := { Cart.plain with info := ⟨.mbc3, false, false, false, 2, 4, 32768⟩ } }, by decide, by decide⟩

/-- A byte of ROM and a byte of HRAM. -/
theorem witness_LoadFromMemory : ∃ s : State, s.Quiet ∧ s.codeByte 0x0100 = some 0x00 ∧ s.codeByte 0xFF80 = some 0x77 :=
  ⟨{ nop with hram := [(0, 0x77)] }, ⟨rfl, rfl, rfl, rfl, rfl⟩, by decide +kernel, by decide +kernel⟩

/-- The first and last addresses of plain RAM, and IE. -/
theorem witness_StoreToMemory : nop.Quiet ∧
    ([0xC000, 0xFDFF, 0xFF80, 0xFFFE].all fun a => !startsDma a && !setsControl a && plainRam a && (nop.cellOf a).isSome) = true ∧
    startsDma 0xFFFF = false ∧ setsControl 0xFFFF = false :=
  ⟨⟨rfl, rfl, rfl, rfl, rfl⟩, by decide +kernel, by decide, by decide⟩

/-- The stores of LD A,(HL+) and LD (HL-),A: as for `witness_StoreToMemory`. -/
theorem witness_LoadStoreStep : (cpuOf fun c => { c with h := 0xFF, l := 0xFF }).Quiet ∧ startsDma 0xFFFF = false :=
  ⟨⟨rfl, rfl, rfl, rfl, rfl⟩, by decide⟩

/-- Two stores at neighbouring addresses: in plain RAM, with the first at IE, and with the second at IE. -/
theorem witness_two_stores : nop.Quiet ∧
    ([0xC000, 0xC001, 0xFFFD, 0xFFFC, 0xFFFE, 0xFFFF, 0x0000].all fun a => !startsDma a) = true ∧
    plainRam 0xFFFD = true ∧ plainRam 0xFFFC = true ∧ (nop.cellOf 0xFFFD).isSome = true ∧ (nop.cellOf 0xFFFC).isSome = true ∧
    setsControl 0xFFFD = false ∧ setsControl 0xFFFC = false ∧ (0x0000 : Addr) - 1 = 0xFFFF ∧ (0x0000 : Addr) - 2 ≠ 0xFFFF ∧
    (0x0001 : Addr) - 2 = 0xFFFF :=
  ⟨⟨rfl, rfl, rfl, rfl, rfl⟩, by decide, by decide, by decide, by decide +kernel, by decide +kernel, by decide, by decide, by decide,
    by decide, by decide⟩

theorem witness_PushPair : nop.Quiet ∧ startsDma (nop.cpu.sp - 1) = false ∧ startsDma (nop.cpu.sp - 2) = false ∧
    plainRam (nop.cpu.sp - 1) = true ∧ plainRam (nop.cpu.sp - 2) = true ∧ (nop.cellOf (nop.cpu.sp - 1)).isSome = true :=
  ⟨⟨rfl, rfl, rfl, rfl, rfl⟩, by decide, by decide, by decide, by decide, by decide +kernel⟩

theorem witness_StoreSp : nop.Quiet ∧ startsDma 0xC100 = false ∧ startsDma (0xC100 + 1) = false ∧ plainRam 0xC100 = true ∧
    plainRam (0xC100 + 1) = true ∧ (nop.cellOf 0xC100).isSome = true :=
  ⟨⟨rfl, rfl, rfl, rfl, rfl⟩, by decide, by decide, by decide, by decide, by decide +kernel⟩

/-- A stack in HRAM. -/
theorem witness_PopPair : ∃ s : State, s.Quiet ∧ s.codeByte s.cpu.sp = some 0x34 ∧ s.codeByte (s.cpu.sp + 1) = some 0x12 :=
  ⟨{ (cpuOf fun c => { c with sp := 0xFFFC }) with hram := [(0x7C, 0x34), (0x7D, 0x12)] }, ⟨rfl, rfl, rfl, rfl, rfl⟩,
    by decide +kernel, by decide +kernel⟩

theorem witness_StackPointer : nop.Quiet := quiet_nop id

theorem witness_AddAdc : nop.Quiet := quiet_nop id

theorem witness_SubSbcCp : nop.Quiet := quiet_nop id

theorem witness_LogicOps : nop.Quiet := quiet_nop id

theorem witness_IncDec8 : (cpuOf fun c => { c with h := 0xC0, l := 0x00 }).Quiet ∧ startsDma 0xC000 = false ∧ plainRam 0xC000 = true :=
  ⟨quiet_nop _, by decide, by decide⟩

/-- The least and greatest two-digit numbers. -/
theorem witness_DecimalArithmetic : ∀ x ∈ [0, 99], ∀ y ∈ [0, 99], x < 100 ∧ y < 100 ∧
    ∃ s : State, s.cpu.a = bcd x ∧ s.cpu.b = bcd y := by
  intro x hx y hy
  have h : ∀ z ∈ [0, 99], z < 100 := by decide
  exact ⟨h x hx, h y hy, cpuOf fun c => { c with a := bcd x, b := bcd y }, rfl, rfl⟩

theorem witness_Arith16 : nop.Quiet := quiet_nop id

theorem witness_ShiftCb : (cpuOf fun c => { c with h := 0xC0, l := 0x00 }).Quiet ∧ startsDma 0xC000 = false ∧ plainRam 0xC000 = true :=
  ⟨quiet_nop _, by decide, by decide⟩

theorem witness_BitTest : nop.Quiet := quiet_nop id

theorem witness_ResSet : (cpuOf fun c => { c with h := 0xC0, l := 0x00 }).Quiet ∧ startsDma 0xC000 = false ∧ plainRam 0xC000 = true :=
  ⟨quiet_nop _, by decide, by decide⟩

/-- Every condition holds in one machine and fails in another. -/
theorem witness_Jumps : ∀ cc : Cond, ∃ s t : State, s.cond cc = true ∧ t.cond cc = false ∧ s.Quiet := by
  intro cc
  cases cc
  · exact ⟨cpuOf fun c => { c with f := 0x00 }, cpuOf fun c => { c with f := 0x80 }, by decide, by decide, quiet_nop _⟩
  · exact ⟨cpuOf fun c => { c with f := 0x80 }, cpuOf fun c => { c with f := 0x00 }, by decide, by decide, quiet_nop _⟩
  · exact ⟨cpuOf fun c => { c with f := 0x00 }, cpuOf fun c => { c with f := 0x10 }, by decide, by decide, quiet_nop _⟩
  · exact ⟨cpuOf fun c => { c with f := 0x10 }, cpuOf fun c => { c with f := 0x00 }, by decide, by decide, quiet_nop _⟩

theorem witness_CallRst : ∀ cc : Cond, ∃ s t : State, s.cond cc = true ∧ t.cond cc = false ∧ s.Quiet := witness_Jumps

theorem witness_Returns : (∀ cc : Cond, ∃ s t : State, s.cond cc = true ∧ t.cond cc = false ∧ s.Quiet) ∧
    ∃ s : State, s.Quiet ∧ s.codeByte s.cpu.sp = some 0x34 ∧ s.codeByte (s.cpu.sp + 1) = some 0x12 := ⟨witness_Jumps, witness_PopPair⟩

/-- An enabled request is pending; IME is still 0. -/
theorem witness_EiDelay : ∃ s : State, s.RunsInstr ∧ s.HooksBehave ∧ s.cpu.imePending = true ∧ s.pendingByte ≠ 0 :=
  ⟨{ (cpuOf fun c => { c with imePending := true }) with ie := 0x01 }, ⟨⟨rfl, rfl, rfl, rfl, rfl, rfl⟩, rfl⟩,
    behaves_of_no_replies rfl, rfl, by decide⟩

/-- HALT with no enabled request; with one and IME 1; with one and IME 0; and the halt-bug fetch. -/
theorem witness_HaltInstr : nop.pendingByte = 0 ∧
    (∃ s : State, s.pendingByte ≠ 0 ∧ s.cpu.imeBefore = true) ∧ (∃ s : State, s.pendingByte ≠ 0 ∧ s.cpu.imeBefore = false) ∧
    (∃ s : State, s.cpu.haltBug = true) ∧ nop.cpu.haltBug = false :=
  ⟨by decide, ⟨{ (cpuOf fun c => { c with imeBefore := true }) with ie := 0x01 }, by decide, rfl⟩,
    ⟨{ nop with ie := 0x01 }, by decide, rfl⟩, ⟨cpuOf fun c => { c with haltBug := true }, rfl⟩, rfl⟩

theorem witness_StopInstr : (∃ s : State, s.model = .cgb ∧ s.speedArmed = true) ∧ (∃ s : State, s.model = .cgb ∧ s.speedArmed = false) ∧
    nop.model ≠ .cgb :=
  ⟨⟨{ nop with model := .cgb, speedArmed := true }, rfl, rfl⟩, ⟨{ nop with model := .cgb }, rfl, rfl⟩, by decide⟩

/-- The machine that dispatches, with an enable byte, requests and a stack pointer. -/
def requesting (ie : Byte) (q : Requests) (sp : Addr) : State :=
  { (cpuOf fun c => { c with ime := true, sp := sp, pc := 0x2034 }) with ie := ie, irq := q }

/-- Each winner, and none after the high byte went to IE; the hooks behave by `requesting_runs`. -/
theorem witness_Dispatch :
    (∀ k : Fin 5, (requesting (1#8 <<< k.val) ⟨true, true, true, true, true⟩ 0xFFFE).Running ∧
      (requesting (1#8 <<< k.val) ⟨true, true, true, true, true⟩ 0xFFFE).cpu.ime = true ∧
      (requesting (1#8 <<< k.val) ⟨true, true, true, true, true⟩ 0xFFFE).pendingByte ≠ 0) ∧
    (requesting 0x01 ⟨true, false, false, false, false⟩ 0x0000).Running ∧
    ((requesting 0x01 ⟨true, false, false, false, false⟩ 0x0000).dispatchEntry.pushByte 0x20).pendingBits = [false, false, false, false, false] :=
  ⟨fun k => ⟨⟨rfl, rfl, rfl, rfl, rfl, rfl⟩, rfl, by revert k; decide +kernel⟩, ⟨rfl, rfl, rfl, rfl, rfl, rfl⟩, by decide +kernel⟩

theorem requesting_runs (ie : Byte) (q : Requests) (sp : Addr) : (requesting ie q sp).Running ∧ (requesting ie q sp).HooksBehave ∧
    (requesting ie q sp).Quiet ∧
    (requesting ie q sp).cpu.ime = true ∧ (requesting ie q sp).cpu.haltBug = false ∧ (requesting ie q sp).cpu.sp = sp :=
  ⟨⟨rfl, rfl, rfl, rfl, rfl, rfl⟩, behaves_of_no_replies rfl, ⟨rfl, rfl, rfl, rfl, rfl⟩, rfl, rfl, rfl⟩

/-- SP = 0x0000 with a high byte that disables every request, and SP = 0x0001; the other hypotheses by `requesting_runs`. -/
theorem witness_DispatchPushesIe : (requesting 0x01 ⟨true, false, false, false, false⟩ 0x0000).pendingByte ≠ 0 ∧
    (requesting 0x01 ⟨true, false, false, false, false⟩ 0x0000).cpu.pc.extractLsb' 8 8 &&& 0x1F = 0 ∧
    (requesting 0x01 ⟨true, false, false, false, false⟩ 0x0001).pendingByte ≠ 0 := by decide

theorem witness_RomAndBanks : nop.Quiet ∧ (0x7FFF : Addr).toNat < 0x8000 ∧ 0 < Cart.plain.info.romBanks ∧
    ∃ c : Cart, 0 < c.info.ramBanks :=
  ⟨quiet_nop id, by decide, by decide, { Cart.plain with info := ⟨.mbc1, false, false, false, 2, 1, 8192⟩ }, by decide⟩

/-- The first and last address of each register of MBC1. -/
theorem witness_Mbc1 : (∃ s : State, s.cart.info.kind = .mbc1 ∧ s.cart.info.multicart = false ∧ s.oamDma.active = false ∧
    0 < s.cart.info.ramBanks) ∧
    (0x1FFF : Addr).toNat < 0x2000 ∧ 0x2000 ≤ (0x2000 : Addr).toNat ∧ (0x3FFF : Addr).toNat < 0x4000 ∧
    0x4000 ≤ (0x4000 : Addr).toNat ∧ (0x5FFF : Addr).toNat < 0x6000 ∧ 0x6000 ≤ (0x6000 : Addr).toNat ∧ (0x7FFF : Addr).toNat < 0x8000 :=
  ⟨⟨{ nop with cart := { Cart.plain with info := ⟨.mbc1, false, false, false, 2, 1, 8192⟩ } }, rfl, rfl, rfl, by decide⟩, by decide,
    by decide, by decide, by decide, by decide, by decide, by decide⟩

/-- WRAM and the echo, at their first and last addresses; one cell under two addresses, and two addresses of different cells. -/
theorem witness_PlainMemory : nop.Quiet ∧ plainRam 0xC000 = true ∧ plainRam 0xDDFF = true ∧ plainRam 0xE000 = true ∧
    plainRam 0xFDFF = true ∧ 0xE000 ≤ (0xE000 : Addr).toNat ∧ (0xFDFF : Addr).toNat < 0xFE00 ∧ 0xC000 ≤ (0xC000 : Addr).toNat ∧
    (0xDDFF : Addr).toNat < 0xDE00 ∧ nop.cellOf 0xC000 = nop.cellOf 0xE000 ∧ nop.cellOf 0xDDFF = nop.cellOf 0xFDFF ∧
    nop.cellOf 0xC000 ≠ nop.cellOf 0xFF80 :=
  ⟨quiet_nop id, by decide, by decide, by decide, by decide, by decide, by decide, by decide, by decide, by decide +kernel,
    by decide +kernel, by decide +kernel⟩

/-- The first and last page of WRAM; a transfer in progress and the last address it blocks. -/
theorem witness_OamDmaTransfer : nop.Quiet ∧ (0xC0 ≤ (0xC0 : Byte).toNat ∧ (0xDF : Byte).toNat < 0xE0) ∧
    (∃ s : State, s.oamDma.active = true) ∧
    ([0xFE00, 0xFE9F] : List Addr).all (fun a => decide (0xFE00 ≤ a.toNat ∧ a.toNat < 0xFEA0)) = true ∧
    ([0x0000, 0xFDFF, 0xFEA0, 0xFEFF] : List Addr).all (fun a => decide (a.toNat < 0xFF00 ∧ (a.toNat < 0xFE00 ∨ 0xFEA0 ≤ a.toNat))) = true :=
  ⟨quiet_nop id, by decide, ⟨{ nop with oamDma := ⟨0xC0, false, true, 0⟩ }, rfl⟩, by decide, by decide⟩

/-- CPU reads of OAM during a transfer, the section "OAM DMA" of 95_test_vectors.md. -/
theorem test_oam_during_dma :
    ([0xFE00, 0xFE9F] : List Addr).map (fun a => (({ nop with oamDma := ⟨0xC0, false, true, 0⟩ } : State).cpuRead a).1) = [0xFF, 0xFF] := by
  decide +kernel

/-- The start of the timer vectors T1 to T5 of 95_test_vectors.md. -/
theorem witness_TimerReload : nop.Quiet ∧ ∃ t : Timer, t.tima = 0xFF ∧ t.overflow = false ∧ t.reloadPending = false ∧ t.signal = true ∧
    Timer.signal { t with sysCounter := t.sysCounter + 4 } = false :=
  ⟨quiet_nop id, ⟨0x000C, 0xFF, 0x80, 5, false, false, false⟩, rfl, rfl, rfl, by decide, by decide⟩

/-- The two speeds of the internal clock, with no peer and with one that sends a bit. -/
theorem witness_SerialTransfer : ∀ (fast : Bool) (bits : List Bool), ∃ s : State, s.Quiet ∧ s.serial.busy = true ∧
    s.serial.internal = true ∧ s.serial.ticks = 0 ∧ s.serial.bits = 0 ∧ s.serial.fast = fast ∧ s.host.peer.bits = bits :=
  fun fast bits => ⟨{ nop with serial := ⟨0x55, true, fast, true, 0, 0⟩, host := { nop.host with peer := ⟨bits, []⟩ } },
    ⟨rfl, rfl, rfl, rfl, rfl⟩, rfl, rfl, rfl, rfl, rfl, rfl⟩

/-- The external clock at every count of bits, with no peer, an M-cycle in which the peer clocks nothing and one in which it clocks. -/
theorem witness_SerialTransfer_external : ∀ (n : Nat) (clocks : List Bool), ∃ s : State, s.Quiet ∧ s.serial.busy = true ∧
    s.serial.internal = false ∧ s.serial.bits = n ∧ s.host.peer.clocks = clocks :=
  fun n clocks => ⟨{ nop with serial := ⟨0x55, true, false, false, 0, n⟩, host := { nop.host with peer := ⟨[], clocks⟩ } },
    ⟨rfl, rfl, rfl, rfl, rfl⟩, rfl, rfl, rfl, rfl⟩

/-- The latch window at its first and last addresses; every RTC register, with the RAM window at its first and last addresses. -/
theorem witness_RtcLatch : (∃ s : State, s.cart.info.kind = .mbc3 ∧ s.cart.info.hasRtc = true ∧ s.oamDma.active = false) ∧
    0x6000 ≤ (0x6000 : Addr).toNat ∧ (0x7FFF : Addr).toNat < 0x8000 ∧
    (∀ k : BitVec 4, ∃ s : State, s.cart.info.kind = .mbc3 ∧ s.cart.info.hasRtc = true ∧ s.cart.ramEnabled = true ∧
      s.oamDma.active = false ∧ s.cart.sel = k) ∧
    0xA000 ≤ (0xA000 : Addr).toNat ∧ (0xBFFF : Addr).toNat < 0xC000 ∧
    8 ≤ (8 : BitVec 4).toNat ∧ (12 : BitVec 4).toNat ≤ 12 :=
  ⟨⟨{ nop with cart := { Cart.plain with info := ⟨.mbc3, false, true, true, 2, 1, 8192⟩ } }, rfl, rfl, rfl⟩, by decide, by decide,
    fun k => ⟨{ nop with cart := { Cart.plain with info := ⟨.mbc3, false, true, true, 2, 1, 8192⟩, ramEnabled := true, sel := k } },
      rfl, rfl, rfl, rfl, rfl⟩, by decide, by decide, by decide, by decide⟩

theorem witness_JoypadRead : (∃ s : State, s.host.hooks.inputPoll = true ∧ s.host.replies = [⟨0x81, []⟩]) ∧
    nop.host.hooks.inputPoll = false :=
  ⟨⟨{ nop with host := { nop.host with hooks := { nop.host.hooks with inputPoll := true }, replies := [⟨0x81, []⟩] } }, rfl, rfl⟩, rfl⟩

/-- An entry of the active bank, a bank-independent entry, and an entry of another bank. -/
theorem witness_BreakpointHit : (∀ b ∈ [Breakpoint.mk none 0x0100, ⟨some 0, 0x0100⟩], ∃ s : State, s.host.replies = [] ∧ b ∈ s.host.breakpoints ∧
      b.addr = s.cpu.pc ∧ (b.bank = none ∨ b.bank = some (s.fetchHooks.activeBank s.cpu.pc))) ∧
    ∃ s : State, s.host.replies = [] ∧ s.host.breakpoints = [⟨some 1, 0x0100⟩] ∧
      ∀ b ∈ s.host.breakpoints, b.addr = s.cpu.pc → b.bank ≠ none ∧ b.bank ≠ some (s.fetchHooks.activeBank s.cpu.pc) := by
  refine ⟨fun b hb => ⟨{ nop with host := { nop.host with breakpoints := [b] } }, rfl, List.mem_singleton.2 rfl, ?_⟩,
    { nop with host := { nop.host with breakpoints := [⟨some 1, 0x0100⟩] } }, rfl, rfl, ?_⟩
  · rcases List.mem_cons.1 hb with rfl | hb
    · exact ⟨rfl, .inl rfl⟩
    · rw [List.mem_singleton.1 hb]
      exact ⟨rfl, .inr rfl⟩
  · intro b hb _
    rw [List.mem_singleton.1 hb]
    exact ⟨by decide, by decide⟩

/-- A machine whose bank registers all differ from 0: MBC5, ROM bank 2, RAM bank 3, WRAM bank 5 of the CGB. -/
def banked : State :=
  { nop with
    model := .cgb
    svbk := 5
    cart := { Cart.plain with info := ⟨.mbc5, false, false, false, 4, 4, 32768⟩, romb := 2, ramb := 3 } }

/-- 60_exceptions.md R241: the active bank at the first and last address of each range. -/
theorem witness_BreakpointHit_banks : banked.cart.ramBank = some 3 ∧
    [0x0000, 0x3FFF, 0x4000, 0x7FFF, 0x8000, 0x9FFF, 0xA000, 0xBFFF, 0xC000, 0xCFFF, 0xD000, 0xDFFF, 0xE000, 0xEFFF, 0xF000, 0xFDFF,
      0xFE00, 0xFFFF].map banked.activeBank = [0, 0, 2, 2, 0, 0, 3, 3, 0, 0, 5, 5, 0, 0, 5, 5, 0, 0] := by decide +kernel

/-- The edges of the domain (95_test_vectors.md W4), and a value outside it. -/
theorem witness_HostRegisters : nop.loaded = true ∧ nop.host.refusedMark = false ∧
    registerSlotsFit [0xFFFF, 0x0000, 0xFF, 0, 0, 0, 0, 0xF0, 0xFF, 0xFF] = true ∧
    registerSlotsFit [0x10000, 0xDFF0, 0x12, 0x34, 0x56, 0x78, 0x9A, 0xB0, 0xBC, 0xDE] = false ∧
    registerSlotsFit [0x0150, 0xDFF0, 0x12, 0x34, 0x56, 0x78, 0x9A, 0xB5, 0xBC, 0xDE] = false := by decide

theorem witness_StepKeepsMachine : nop.bootMapped = false ∧ nop.host.replies = [] ∧ ∃ t, step nop = .next t := by
  obtain ⟨t, h, -⟩ := of_observed (show ran nop [] (·.cycles) = some 4 by decide +kernel)
  exact ⟨rfl, rfl, t, h⟩

/-- IME set by the EI delay, and cleared by DI. -/
theorem witness_ImeWriters :
    (∃ s t : State, step s = .next t ∧ s.cpu.halted = false ∧ s.cpu.ime = false ∧ t.cpu.ime = true) ∧
    (∃ s t : State, step s = .next t ∧ s.cpu.halted = false ∧ s.cpu.ime = true ∧ t.cpu.ime = false) := by
  obtain ⟨t, h, e⟩ := of_observed (show ran (cpuOf fun c => { c with imePending := true }) [] (·.cpu.ime) = some true by decide +kernel)
  obtain ⟨u, k, g⟩ := of_observed
    (show ran { State.reset with cpu := { Cpu.reset with ime := true } } [0xF3] (·.cpu.ime) = some false by decide +kernel)
  exact ⟨⟨_, t, h, rfl, rfl, e⟩, _, u, k, rfl, rfl, g⟩

/-- A line with a look, and a quiet machine at the start of a frame with the sprites off, in both speeds. -/
theorem witness_LayerMask : (∃ s : State, s.host.refusedMark = false ∧ s.host.replies = [] ∧ looksIn 143 65664 s.host.picture ≠ []) ∧
    ∀ fast : Bool, ∃ s : State, s.Quiet ∧ s.lcdOn = true ∧ s.ppu.lineTick = 0 ∧ s.doubleSpeed = fast ∧ s.model = .dmg ∧
      s.host.layerMask.getLsbD 1 = false :=
  ⟨⟨{ nop with host := { nop.host with picture := [(0, nop.look)] } }, rfl, rfl, by decide +kernel⟩,
    fun fast => ⟨{ nop with doubleSpeed := fast, ppu := ⟨0x91, 0⟩, host := { nop.host with layerMask := 5 } },
      ⟨rfl, rfl, rfl, rfl, rfl⟩, by show bit 0x91 7 = true; decide, rfl, rfl, rfl,
      by show (5 : BitVec 3).getLsbD 1 = false; decide⟩⟩

/-! Host calls. -/

/-- What a `runFor` call of one sample returns: the frame offset, the samples produced and how many reach the buffer. -/
def ranFor (capacity : Option Nat) : Option (Int × Nat × Nat) :=
  match hostCall (.runFor capacity 1 [] ⟨[], []⟩) nop with
  | .next (.run f n buf, _) => some (f, n, buf.length)
  | _ => none

/-- 70_reset_and_hazards.md R262: an M-cycle gives 2 samples (R258), and with a null buffer they are discarded. -/
theorem test_runFor_buffer : ranFor (some 2065) = some (-1, 2, 2) ∧ ranFor none = some (-1, 2, 0) := by decide +kernel

/-- 60_exceptions.md R233, R234: a look in force from position 900 on reaches the lines from line 1 (positions 456 to 911) on. -/
theorem test_looksIn : let old : Look := ⟨⟨[], none⟩, 7⟩; let new : Look := ⟨⟨[], none⟩, 5⟩; let picture : Picture := [(900, new), (0, old)]
    looksIn 0 65664 picture = [old] ∧ looksIn 1 65664 picture = [new, old] ∧ looksIn 2 65664 picture = [new] := by decide

/-- 20_memory.md R74, R80, R81: `ramBank` of an MBC3 at SEL 3 and 5, of an MBC2 and without RAM banks. -/
theorem test_ramBank : (Cart.ramBank { Cart.plain with info := ⟨.mbc3, false, false, false, 2, 2, 16384⟩, sel := 3 } = some 1) ∧
    Cart.ramBank { Cart.plain with info := ⟨.mbc3, false, false, false, 2, 2, 16384⟩, sel := 5 } = none ∧
    Cart.ramBank { Cart.plain with info := ⟨.mbc2, false, false, false, 2, 1, 512⟩ } = none ∧ Cart.plain.ramBank = none := by decide

/-- 70_reset_and_hazards.md R268: the title ends at the first 0x00, and nothing of it hangs on the bytes the image lacks after that. -/
theorem test_romTitle : State.romTitle { nop with rom := [(0x134, 0x41), (0x135, 0x42), (0x136, 0x00)] } = [0x41, 0x42] := by decide +kernel

end Sys2Proof.Tests
end

/-! O8: every step keeps the invariant (00_scope.md R13). The clock, the data and the fixed parts come with `cpuStep_progress`; what is
left is the CPU's part, which is about latches: only an awake CPU with no halt bug armed runs an instruction, and an instruction sets at
most one latch. -/

namespace Sys2Proof.Machine

/-- No latch of R40 holds the CPU, and bits 3:0 of F are 0. The halt bug may be armed. -/
structure Cpu.Awake (c : Cpu) : Prop where
  flags : c.f &&& 0x0F = 0
  halted : c.halted = false
  stopped : c.stopped = false
  lockedUp : c.lockedUp = false

theorem Cpu.Awake.inv {c : Cpu} (h : c.Awake) : c.Inv where
  flags := h.flags
  oneLatch := by simp [h.halted, h.stopped]
  haltBug _ := ⟨h.halted, h.stopped, h.lockedUp⟩

theorem Cpu.Awake.of_sameLatches {c d : Cpu} (h : c.Awake) (k : SameLatches c d) : d.Awake :=
  ⟨k.flags h.flags, k.halted.trans h.halted, k.stopped.trans h.stopped, k.lockedUp.trans h.lockedUp⟩

/-- The invariant does not speak of stallCount. -/
theorem cpuInv_core {s : State} : s.core.Inv ↔ s.cpu.Inv :=
  ⟨fun h => ⟨h.flags, h.oneLatch, h.haltBug⟩, fun h => ⟨h.flags, h.oneLatch, h.haltBug⟩⟩

/-! From an instruction boundary to the meaning of the instruction. -/

theorem awake_dispatch {s : State} (h : s.core.Awake) : s.dispatch.core.Awake := by
  rw [dispatch_core]; exact ⟨h.flags, h.halted, h.stopped, h.lockedUp⟩

theorem awake_startInstr {s : State} (h : s.core.Awake) : s.startInstr.core.Awake := by
  rw [startInstr_core]; exact ⟨h.flags, h.halted, h.stopped, h.lockedUp⟩

/-- The halt-bug fetch disarms the halt bug, and no other is armed (R202). -/
theorem awake_fetchOp {s : State} (h : s.core.Awake) : s.fetchOp.2.core.Awake ∧ s.fetchOp.2.core.haltBug = false := by
  rw [fetchOp_core]
  split
  · exact ⟨⟨h.flags, h.halted, h.stopped, h.lockedUp⟩, rfl⟩
  · rename_i hb
    exact ⟨⟨h.flags, h.halted, h.stopped, h.lockedUp⟩, Bool.eq_false_iff.2 hb⟩

theorem latches_fetchImm (s : State) : SameLatches s.core s.fetchImm.2.core := by
  rw [fetchImm_core]; exact latches_pc _ _

theorem latches_fetchImms (s : State) (n : Nat) : SameLatches s.core (s.fetchImms n).2.core := by
  induction n generalizing s with
  | zero => exact .refl _
  | succ n ih => exact (latches_fetchImm s).trans (ih _)

theorem latches_lowFirst (s : State) (op lo : Byte) : SameLatches s.core (s.lowFirst op lo).core := by
  unfold State.lowFirst; split
  · exact latches_setRegState s _ _
  · exact .refl _

theorem latches_fetchOperands (s : State) (op : Byte) (n : Nat) : SameLatches s.core (s.fetchOperands op n).2.core := by
  cases n with
  | zero => exact .refl _
  | succ n => exact ((latches_fetchImm s).trans (latches_lowFirst _ _ _)).trans (latches_fetchImms _ n)

/-- After its fetches an instruction finds the CPU awake and no halt bug armed. -/
theorem awake_fetchInstr {s : State} (h : s.core.Awake) : s.fetchInstr.2.core.Awake ∧ s.fetchInstr.2.core.haltBug = false := by
  obtain ⟨awake, noBug⟩ := awake_fetchOp h
  have k := latches_fetchOperands s.fetchOp.2 s.fetchOp.1 (instrLength s.fetchOp.1 - 1)
  exact ⟨awake.of_sameLatches k, k.haltBug.trans noBug⟩

/-! An instruction sets at most one latch, or arms the halt bug, of an awake CPU. -/

theorem Cpu.Awake.inv_halted {c : Cpu} (h : c.Awake) (b : c.haltBug = false) : Cpu.Inv { c with halted := true } where
  flags := h.flags
  oneLatch := by simp [h.stopped, h.lockedUp]
  haltBug armed := by simp [b] at armed

theorem Cpu.Awake.inv_stopped {c : Cpu} (h : c.Awake) (b : c.haltBug = false) : Cpu.Inv { c with stopped := true } where
  flags := h.flags
  oneLatch := by simp [h.halted, h.lockedUp]
  haltBug armed := by simp [b] at armed

theorem Cpu.Awake.inv_lockedUp {c : Cpu} (h : c.Awake) (b : c.haltBug = false) : Cpu.Inv { c with lockedUp := true } where
  flags := h.flags
  oneLatch := by simp [h.halted, h.stopped]
  haltBug armed := by simp [b] at armed

theorem Cpu.Awake.armed {c : Cpu} (h : c.Awake) : Cpu.Awake { c with haltBug := true } :=
  ⟨h.flags, h.halted, h.stopped, h.lockedUp⟩

theorem cpuInv_haltCpu {s : State} (h : s.core.Awake) (b : s.core.haltBug = false) : s.haltCpu.core.Inv := by
  unfold State.haltCpu; split
  · exact h.inv_halted b
  · split
    · exact h.inv
    · exact h.armed.inv

/-- STOP enters stop mode, or with a speed switch armed starts a stall (R204, R205). -/
theorem cpuInv_stopCpu {s : State} (h : s.core.Awake) (b : s.core.haltBug = false) : s.stopCpu.core.Inv := by
  have stop : s.stopMode.core.Inv := h.inv_stopped b
  unfold State.stopCpu; split
  · split
    · exact h.inv
    · exact stop
  · exact stop
  · exact stop

theorem cpuInv_exec {i : Instr} {s t : State} (h : s.core.Awake) (b : s.core.haltBug = false) (e : exec i s = .next t) :
    t.core.Inv := by
  rcases exec_latches i s with writes | ⟨u, hu, keeps⟩
  · cases writes with
    | di | ei =>
      obtain rfl := Host.Outcome.next.inj e
      exact Cpu.Awake.inv ⟨h.flags, h.halted, h.stopped, h.lockedUp⟩
    | reti =>
      obtain rfl : s.interruptReturn = t := Host.Outcome.next.inj e
      rw [interruptReturn_core]
      exact Cpu.Awake.inv ⟨h.flags, h.halted, h.stopped, h.lockedUp⟩
    | halt =>
      obtain rfl : s.haltCpu = t := Host.Outcome.next.inj e
      exact cpuInv_haltCpu h b
    | stop n =>
      obtain rfl : s.stopCpu = t := Host.Outcome.next.inj e
      exact cpuInv_stopCpu h b
    | illegal k =>
      obtain rfl := Host.Outcome.next.inj ((exec_illegal k s).symm.trans e)
      exact h.inv_lockedUp b
  · obtain rfl := Host.Outcome.next.inj (e.symm.trans hu)
    exact (h.of_sameLatches keeps).inv

/-! The branches of the CPU step (R119). -/

theorem cpuInv_atBoundary {s t : State} (h : s.core.Awake) (e : s.atBoundary = .next t) : t.core.Inv := by
  unfold State.atBoundary at e
  split at e
  · obtain rfl := Host.Outcome.next.inj e
    exact (awake_dispatch h).inv
  · obtain ⟨i, -, runs⟩ := runInstr_decoded s
    obtain ⟨awake, noBug⟩ := awake_fetchInstr (awake_startInstr h)
    exact cpuInv_exec awake noBug (runs.symm.trans e)

/-- The core after a stop cycle: stop mode ends when a selected line is pressed at the poll (R204). -/
theorem stopCycle_core (s : State) :
    s.stopCycle.core = { s.core with stopped := s.core.stopped && s.pollInput.joypad.lastLines == 0xF } := by
  have kept : (s.pollInput.deviceCycle false).core = s.core := (deviceCycle_core _ _).trans (core_of_cpu (pollInput_cpu s))
  rw [← kept]; rfl

theorem Cpu.Inv.stopped_and {c : Cpu} (h : c.Inv) (x : Bool) : Cpu.Inv { c with stopped := c.stopped && x } := by
  obtain ⟨noStop, noLock, apart⟩ := h.oneLatch
  refine ⟨h.flags, ⟨?_, noLock, ?_⟩, fun armed => ?_⟩
  · rw [← Bool.and_assoc, noStop, Bool.false_and]
  · rw [Bool.and_right_comm, apart, Bool.false_and]
  · obtain ⟨hh, hs, hl⟩ := h.haltBug armed
    exact ⟨hh, by simp [hs], hl⟩

theorem cpuInv_cpuStep {s t : State} (h : s.core.Inv) (e : s.cpuStep = .next t) : t.core.Inv := by
  unfold State.cpuStep at e
  split at e
  · obtain rfl := Host.Outcome.next.inj e
    rw [internal_core]; exact h
  split at e
  · obtain rfl := Host.Outcome.next.inj e
    rw [stallCycle_core]; exact h
  split at e
  · obtain rfl := Host.Outcome.next.inj e
    rw [stopCycle_core]; exact h.stopped_and _
  rename_i notLocked _ notStopped
  have notLocked : s.core.lockedUp = false := Bool.eq_false_iff.2 notLocked
  have notStopped : s.core.stopped = false := Bool.eq_false_iff.2 notStopped
  split at e
  · split at e
    · refine cpuInv_atBoundary (s := s.haltWake) ?_ e
      rw [haltWake_core]; exact ⟨h.flags, rfl, notStopped, notLocked⟩
    · obtain rfl := Host.Outcome.next.inj e
      rw [internal_core]; exact h
  · rename_i notHalted
    exact cpuInv_atBoundary ⟨h.flags, Bool.eq_false_iff.2 notHalted, notStopped, notLocked⟩ e

/-! The other parts. -/

/-- A frame event that M-cycles from an even clock raise lies within the samples they produce (R260). -/
theorem Ticks.eventInRun {n : Nat} {s t : State} (h : Ticks n s t) (even : s.EvenClock) (before : s.EventInRun) : t.EventInRun := by
  intro f hf
  rcases (h.clock even).2 with kept | ⟨-, g, hg, -, inRun⟩
  · have := before f (kept ▸ hf)
    have := h.least
    omega
  · obtain rfl := Option.some.inj (hf.symm.trans hg)
    exact inRun

/-- Progress keeps every part of the invariant but the CPU's. -/
theorem Progress.inv {n : Nat} {s t : State} (p : Progress n s t) (h : s.Inv) (cpu : t.cpu.Inv) : t.Inv where
  cpu := cpu
  data := p.data h.data
  clock := (p.ticks.clock h.clock).1
  cycles := by
    have before := h.cycles
    have after := p.ticks.cycles
    omega
  event := p.ticks.eventInRun h.clock h.event
  romBanks := p.fixed.info ▸ h.romBanks

/-- Settles O8: the CPU step that a step is makes progress and keeps the CPU's part of the invariant. -/
theorem invStep : Obligations.InvStep := by
  intro s t h answers
  obtain ⟨-, -, runs, -⟩ := step_next answers
  obtain ⟨n, u, hu, progress⟩ := cpuStep_progress s
  obtain rfl := Host.Outcome.next.inj (runs.symm.trans hu)
  exact progress.inv h (cpuInv_core.1 (cpuInv_cpuStep (cpuInv_core.2 h.cpu) runs))

end Sys2Proof.Machine

/-! O57: the host's view of the registers (10_state.md R44, R45). -/

namespace Sys2Proof.Machine

/-- The domain of `setRegs` is the rule's: ten slots, each within its register, and bits 3:0 of F clear (R45). -/
theorem registerSlotsFit_iff (x : List Nat) :
    registerSlotsFit x = true ↔ ∃ pc sp a b c d e f h l : Nat, x = [pc, sp, a, b, c, d, e, f, h, l] ∧ pc < 0x10000 ∧ sp < 0x10000 ∧
      a < 0x100 ∧ b < 0x100 ∧ c < 0x100 ∧ d < 0x100 ∧ e < 0x100 ∧ f < 0x100 ∧ h < 0x100 ∧ l < 0x100 ∧ f % 16 = 0 := by
  constructor
  · intro fits
    unfold registerSlotsFit at fits
    split at fits
    · rename_i pc sp a b c d e f h l
      refine ⟨pc, sp, a, b, c, d, e, f, h, l, rfl, ?_⟩
      simpa [and_assoc] using fits
    · contradiction
  · rintro ⟨pc, sp, a, b, c, d, e, f, h, l, rfl, bounds⟩
    simpa [registerSlotsFit, and_assoc] using bounds

/-- A byte whose low nibble is clear passes the mask of F (R34). -/
theorem and_F0_of_low_clear {n : Nat} (small : n < 0x100) (low : n % 16 = 0) : BitVec.ofNat 8 n &&& 0xF0 = BitVec.ofNat 8 n := by
  obtain ⟨k, rfl⟩ := Nat.dvd_of_mod_eq_zero low
  have table : ∀ k < 16, BitVec.ofNat 8 (16 * k) &&& 0xF0 = BitVec.ofNat 8 (16 * k) := by decide
  exact table k (by omega)

/-- On the domain of R45 the slots read after `setRegisterSlots` are those written. -/
theorem registerSlots_setRegisterSlots (s : State) {x : List Nat} (fits : registerSlotsFit x = true) :
    (s.setRegisterSlots x).registerSlots = x := by
  obtain ⟨pc, sp, a, b, c, d, e, f, h, l, rfl, hpc, hsp, ha, hb, hc, hd, he, hf, hh, hl, low⟩ := (registerSlotsFit_iff x).1 fits
  have flags : BitVec.ofNat 8 f &&& 0xF0 = BitVec.ofNat 8 f := and_F0_of_low_clear hf low
  simp only [State.registerSlots, State.setRegisterSlots, State.flags, Cpu.flags, List.getD_cons_zero, List.getD_cons_succ,
    BitVec.toNat_ofNat, Nat.reducePow, Nat.mod_eq_of_lt, *]

/-- A host call that its body answers with the refused mark clear. -/
theorem hostCall_next {c : HostCall} {s t : State} {r : HostReturn} (before : s.host.refusedMark = false)
    (body : s.hostCallBody c = .next (r, t)) (after : t.host.refusedMark = false) : hostCall c s = .next (r, t) := by
  simp [hostCall, before, body, after]

/-- A host call that its body refuses. -/
theorem hostCall_refused {c : HostCall} {s : State} {e : Refusal} (before : s.host.refusedMark = false)
    (body : s.hostCallBody c = .refused e) : hostCall c s = .refused e := by
  simp [hostCall, before, body]

theorem hostCallBody_getRegs {s : State} (loaded : s.loaded = true) : s.hostCallBody .getRegs = .next (.slots s.registerSlots, s) := by
  simp [State.hostCallBody, State.needsCart, loaded]

theorem hostCallBody_setRegs {s : State} (loaded : s.loaded = true) (x : List Nat) :
    s.hostCallBody (.setRegs x) =
      if registerSlotsFit x then .next (.nothing, s.setRegisterSlots x) else .refused .badRegisterValue := by
  simp [State.hostCallBody, State.needsCart, loaded]

/-- Settles O57: `setRegs` answers or is refused as its domain says, and on the domain the slots read back are those written. -/
theorem hostRegisters : Obligations.HostRegisters := by
  intro s x loaded unmarked
  refine ⟨fun fits => ⟨s.setRegisterSlots x, ?_, ?_, rfl, rfl⟩, fun unfit => ?_, registerSlotsFit_iff x⟩
  · exact hostCall_next unmarked (by rw [hostCallBody_setRegs loaded, if_pos fits]) unmarked
  · have get := hostCallBody_getRegs (s := s.setRegisterSlots x) loaded
    rw [registerSlots_setRegisterSlots s fits] at get
    exact hostCall_next unmarked get unmarked
  · exact hostCall_refused unmarked (by rw [hostCallBody_setRegs loaded, unfit]; rfl)

end Sys2Proof.Machine

/-! O58: no step changes what kind of machine it is. `SameMachine` (Laws/Fixed.lean) is that statement as a relation that composes, and it
holds of every CPU step. -/

namespace Sys2Proof.Machine

/-- Settles O58: a step is a CPU step, and every CPU step keeps the kind of the machine, and ROM when the host makes no calls from hooks. -/
theorem stepKeepsMachine : Obligations.StepKeepsMachine := by
  intro s t answers
  obtain ⟨-, -, runs, -⟩ := step_next answers
  obtain ⟨n, u, hu, progress⟩ := cpuStep_progress s
  obtain rfl := Host.Outcome.next.inj (runs.symm.trans hu)
  obtain ⟨kind, host, -⟩ := progress.fixed
  exact ⟨kind.model, kind.agbRegs, kind.bios, kind.loaded, kind.bootDmg, kind.bootCgb, kind.bootRom, kind.info, kind.bootMapped,
    fun noReplies => (host noReplies).2⟩

end Sys2Proof.Machine

/-! O59: who writes IME (10_state.md R36). At a boundary without a dispatch IME first takes the EI delay, the fetches keep it, and only DI
and RETI write it. -/

namespace Sys2Proof.Machine

/-- The end of the EI delay sets IME (R37), and the fetches of the instruction keep it. -/
theorem fetchInstr_startInstr_ime (s : State) : s.startInstr.fetchInstr.2.cpu.ime = (s.cpu.ime || s.cpu.imePending) := by
  have op (t : State) : t.fetchOp.2.core.ime = t.core.ime := by rw [fetchOp_core]; split <;> rfl
  calc s.startInstr.fetchInstr.2.core.ime
      = s.startInstr.fetchOp.2.core.ime := (latches_fetchOperands _ _ _).ime
    _ = s.startInstr.core.ime := op _
    _ = (s.cpu.ime || s.cpu.imePending) := by rw [startInstr_core]

theorem haltCpu_ime (s : State) : s.haltCpu.cpu.ime = s.cpu.ime := by
  unfold State.haltCpu; split
  · rfl
  · split <;> rfl

theorem stopCpu_ime (s : State) : s.stopCpu.cpu.ime = s.cpu.ime := by
  unfold State.stopCpu; split
  · split <;> rfl
  · rfl
  · rfl

/-- DI clears IME, RETI sets it, and every other instruction keeps it; EI arms the delay only (R36, R37). -/
theorem exec_ime {i : Instr} {s t : State} (answers : exec i s = .next t) :
    t.cpu.ime = s.cpu.ime ∨ (i = .di ∧ t.cpu.ime = false) ∨ (i = .reti ∧ t.cpu.ime = true) := by
  rcases exec_latches i s with writes | ⟨u, hu, keeps⟩
  · cases writes with
    | di =>
      obtain rfl := Host.Outcome.next.inj answers
      exact .inr (.inl ⟨rfl, rfl⟩)
    | reti =>
      obtain rfl : s.interruptReturn = t := Host.Outcome.next.inj answers
      exact .inr (.inr ⟨rfl, rfl⟩)
    | ei =>
      obtain rfl := Host.Outcome.next.inj answers
      exact .inl rfl
    | halt =>
      obtain rfl : s.haltCpu = t := Host.Outcome.next.inj answers
      exact .inl (haltCpu_ime s)
    | stop n =>
      obtain rfl : s.stopCpu = t := Host.Outcome.next.inj answers
      exact .inl (stopCpu_ime s)
    | illegal k =>
      obtain rfl := Host.Outcome.next.inj ((exec_illegal k s).symm.trans answers)
      exact .inl rfl
  · obtain rfl := Host.Outcome.next.inj (answers.symm.trans hu)
    exact .inl keeps.ime

/-- The instruction part of a step is the meaning of `nextInstr` after its fetches. -/
theorem runInstr_nextInstr (s : State) : ∃ i, s.nextInstr = some i ∧ s.runInstr = exec i s.startInstr.fetchInstr.2 := by
  obtain ⟨i, decoded, runs⟩ := runInstr_decoded s
  exact ⟨i, by simp [State.nextInstr, decoded], runs⟩

/-- What a step of a CPU that is not halted does to IME: it keeps it, dispatches, or runs an instruction. -/
theorem cpuStep_ime {s t : State} (notHalted : s.cpu.halted = false) (answers : s.cpuStep = .next t) :
    t.cpu.ime = s.cpu.ime ∨ (s.cpu.ime = true ∧ s.pending = true ∧ t.cpu.ime = false) ∨
      t.cpu.ime = (s.cpu.ime || s.cpu.imePending) ∨
      (s.nextInstr = some .di ∧ t.cpu.ime = false) ∨ (s.nextInstr = some .reti ∧ t.cpu.ime = true) := by
  unfold State.cpuStep at answers
  split at answers
  · obtain rfl := Host.Outcome.next.inj answers
    exact .inl (show s.internal.core.ime = s.core.ime by rw [internal_core])
  split at answers
  · obtain rfl := Host.Outcome.next.inj answers
    exact .inl (show s.stallCycle.core.ime = s.core.ime by rw [stallCycle_core])
  split at answers
  · obtain rfl := Host.Outcome.next.inj answers
    exact .inl (show s.stopCycle.core.ime = s.core.ime by rw [stopCycle_core])
  rw [if_neg (by simp [notHalted]), State.atBoundary] at answers
  split at answers
  · rename_i taken
    obtain ⟨ime, pending⟩ := Bool.and_eq_true_iff.1 taken
    obtain rfl := Host.Outcome.next.inj answers
    exact .inr (.inl ⟨ime, pending, show s.dispatch.core.ime = false by rw [dispatch_core]⟩)
  · obtain ⟨i, next, runs⟩ := runInstr_nextInstr s
    rw [next, ← fetchInstr_startInstr_ime s]
    rcases exec_ime (runs.symm.trans answers) with kept | ⟨rfl, cleared⟩ | ⟨rfl, set⟩
    · exact .inr (.inr (.inl kept))
    · exact .inr (.inr (.inr (.inl ⟨rfl, cleared⟩)))
    · exact .inr (.inr (.inr (.inr ⟨rfl, set⟩)))

/-- Settles O59: of the things a step can do to IME, only the EI delay and RETI set it, and only a dispatch and DI clear it. -/
theorem imeWriters : Obligations.ImeWriters := by
  intro s t answers notHalted
  obtain ⟨-, -, runs, -⟩ := step_next answers
  rcases cpuStep_ime notHalted runs with kept | ⟨ime, pending, cleared⟩ | delay | ⟨isDi, cleared⟩ | ⟨isReti, set⟩
  · exact ⟨fun h0 h1 => by simp [kept, h0] at h1, fun h1 h0 => by simp [kept, h1] at h0⟩
  · exact ⟨fun h0 => by simp [ime] at h0, fun _ _ => .inl pending⟩
  · exact ⟨fun h0 h1 => .inl (by simpa [delay, h0] using h1), fun h1 h0 => by simp [delay, h1] at h0⟩
  · exact ⟨fun _ h1 => by simp [cleared] at h1, fun _ _ => .inr isDi⟩
  · exact ⟨fun _ _ => .inr isReti, fun _ h0 => by simp [set] at h0⟩

end Sys2Proof.Machine

/-! The bus regions of cartridge accesses (20_memory.md R55): what the resolution of R66 and R67 does at 0x0000-0x7FFF and at 0xA000-0xBFFF
when no OAM DMA blocks the access. -/

namespace Sys2Proof.Machine

theorem region_low (s : State) {a : Addr} (low : a.toNat < 0x8000) : s.region a = .low a := if_pos low

theorem region_cart (s : State) {a : Addr} (lo : 0xA000 ≤ a.toNat) (hi : a.toNat < 0xC000) : s.region a = .cart a := by
  unfold State.region
  dsimp only
  rw [if_neg (by omega), if_neg (by omega), if_pos hi]

theorem resolveWrite_low {s : State} {a : Addr} (idle : s.oamDma.active = false) (low : a.toNat < 0x8000) (v : Byte) :
    s.resolveWrite a v = s.bankWrite a v := by
  simp [State.resolveWrite, State.dmaBlocks, idle, region_low s low]

theorem resolveWrite_cart {s : State} {a : Addr} (idle : s.oamDma.active = false) (lo : 0xA000 ≤ a.toNat) (hi : a.toNat < 0xC000)
    (v : Byte) : s.resolveWrite a v = s.cartWrite a v := by
  simp [State.resolveWrite, State.dmaBlocks, idle, region_cart s lo hi]

theorem resolveRead_cart (s : State) {a : Addr} (lo : 0xA000 ≤ a.toNat) (hi : a.toNat < 0xC000) : s.resolveRead a = s.cartRead a := by
  simp [State.resolveRead, region_cart s lo hi]

end Sys2Proof.Machine

/-! O49: MBC1 (20_memory.md R74, R76, R78). The bit fields that the rule takes from the written byte are said as numbers, then each of the
four write windows of the controller. -/

namespace Sys2Proof.Machine

theorem ramEnableValue_eq (v : Byte) : ramEnableValue v = decide (v.toNat % 16 = 10) := by
  rw [ramEnableValue, Bool.beq_eq_decide_eq]
  exact decide_eq_decide.2 (BitVec.toNat_inj (x := field4 v) (y := 10)).symm

/-- The zero check of BANK1 is on its five bits (R78). -/
theorem zeroToOne_field5 (v : Byte) : zeroToOne (v.extractLsb' 0 5) = if v.toNat % 32 = 0 then 1 else BitVec.ofNat 5 v.toNat := by
  have zero : v.extractLsb' 0 5 = 0 ↔ v.toNat % 32 = 0 := (BitVec.toNat_inj (x := v.extractLsb' 0 5) (y := 0)).symm
  simp only [zeroToOne, zero]
  rfl

theorem field2_zero (v : Byte) : field2 v 0 = BitVec.ofNat 2 v.toNat := rfl

theorem bit_zero (v : Byte) : bit v 0 = decide (v.toNat % 2 = 1) := by
  simp [bit, BitVec.getLsbD, Nat.testBit_zero]

/-- No bank register is the last value on the cartridge bus or its tick (R70). -/
theorem control_lastBus (c : Cart) (a : Addr) (v : Byte) :
    { c.control a v with lastValue := c.lastValue, lastTick := c.lastTick } = c.control a v := by
  unfold Cart.control; dsimp only
  split <;> (repeat' split) <;> rfl

/-- A write below 0x8000 is the controller's write, apart from the last value on the cartridge bus (R73). -/
theorem resolveWrite_low_registers {s : State} {a : Addr} (idle : s.oamDma.active = false) (low : a.toNat < 0x8000) (v : Byte) :
    { (s.resolveWrite a v).cart with lastValue := s.cart.lastValue, lastTick := s.cart.lastTick } = s.cart.control a v := by
  rw [resolveWrite_low idle low]
  exact control_lastBus s.cart a v

section
variable {c : Cart} (mbc1 : c.info.kind = .mbc1) {a : Addr} (v : Byte)
include mbc1

theorem control_mbc1_ramEnable (hi : a.toNat < 0x2000) :
    c.control a v = { c with ramEnabled := decide (v.toNat % 16 = 10) } := by
  simp [Cart.control, mbc1, hi, ramEnableValue_eq]

theorem control_mbc1_bank1 (lo : 0x2000 ≤ a.toNat) (hi : a.toNat < 0x4000) :
    c.control a v = { c with bank1 := if v.toNat % 32 = 0 then 1 else BitVec.ofNat 5 v.toNat } := by
  simp [Cart.control, mbc1, lo.not_gt, hi, zeroToOne_field5]

theorem control_mbc1_bank2 (lo : 0x4000 ≤ a.toNat) (hi : a.toNat < 0x6000) :
    c.control a v = { c with bank2 := BitVec.ofNat 2 v.toNat } := by
  have above : ¬a.toNat < 0x2000 := by omega
  simp [Cart.control, mbc1, above, lo.not_gt, hi, field2_zero]

theorem control_mbc1_mode (lo : 0x6000 ≤ a.toNat) :
    c.control a v = { c with mode := decide (v.toNat % 2 = 1) } := by
  have above : ¬a.toNat < 0x2000 ∧ ¬a.toNat < 0x4000 := by omega
  simp [Cart.control, mbc1, above, lo.not_gt, bit_zero]

end

/-- Settles O49: a write below 0x8000 is the controller's, window by window, and the three banks are the values of R78, reduced. -/
theorem mbc1 : Obligations.Mbc1 := by
  intro s a v kind single idle d
  have written (low : a.toNat < 0x8000) : d = s.cart.control a v := resolveWrite_low_registers idle low v
  refine ⟨fun hi => ?_, fun lo hi => ?_, fun lo hi => ?_, fun lo hi => ?_, ?_, ?_, fun banks => ?_⟩
  · exact (written (by omega)).trans (control_mbc1_ramEnable kind v hi)
  · exact (written (by omega)).trans (control_mbc1_bank1 kind v lo hi)
  · exact (written (by omega)).trans (control_mbc1_bank2 kind v lo hi)
  · exact (written hi).trans (control_mbc1_mode kind v lo)
  · simp [Cart.romxBank, Cart.romxValue, kind, single]
  · simp [Cart.rom0Bank, Cart.rom0Value, kind, single]
  · simp [Cart.ramBank, Cart.ramValue, kind, banks.ne']

end Sys2Proof.Machine

/-! O50: plain RAM (20_memory.md R60, R62, R64, R92). A read of plain RAM gives the byte of the cell, a store leaves every cell where it is
and every other cell as it was, and an address of the echo is the cell 0x2000 below it. -/

namespace Sys2Proof.Machine

/-- A read of plain RAM by a quiet machine gives the byte of the cell its address selects. -/
theorem memRead_plain {s : State} (q : s.Quiet) {a : Addr} (h : plainRam a = true) {k : Store} {o : Nat}
    (cell : s.cellOf a = some (k, o)) : (s.memRead a).1 = s.ramByte k o := by
  obtain ⟨k', o', cell', code, -⟩ := codeByte_plain (s := s) h
  obtain ⟨rfl, rfl⟩ := Prod.mk.inj (Option.some.inj (cell'.symm.trans cell))
  exact memRead_code q code

section
variable {s : State} (q : s.Quiet) {a b : Addr} (ha : plainRam a = true) (hb : plainRam b = true) (v : Byte)
include q ha

/-- A store to plain RAM changes no bank, so every address still selects its cell. -/
theorem cellOf_memWrite_plain : (s.memWrite a v).cellOf b = s.cellOf b := by
  obtain ⟨-, -, control⟩ := memWrite_frame q a v (plain_startsDma ha).1
  exact cellOf_control (control (plain_startsDma ha).2) b

include hb

/-- A read after a write of plain RAM, at any address of the cell written. -/
theorem memRead_memWrite_sameCell (same : s.cellOf a = s.cellOf b) : ((s.memWrite a v).memRead b).1 = v := by
  obtain ⟨-, quiet, -⟩ := memWrite_frame q a v (plain_startsDma ha).1
  obtain ⟨k, o, cell, -⟩ := codeByte_plain (s := s) hb
  rw [memRead_plain quiet hb ((cellOf_memWrite_plain q ha v).trans cell)]
  exact (memWrite_plain q ha v).2 k o (same.trans cell)

/-- A read after a write of plain RAM, at any address of another cell. -/
theorem memRead_memWrite_otherCell (other : s.cellOf a ≠ s.cellOf b) : ((s.memWrite a v).memRead b).1 = (s.memRead b).1 := by
  obtain ⟨⟨-, kept, -⟩, quiet, -⟩ := memWrite_frame q a v (plain_startsDma ha).1
  obtain ⟨k, o, cell, -⟩ := codeByte_plain (s := s) hb
  rw [memRead_plain quiet hb ((cellOf_memWrite_plain q ha v).trans cell), memRead_plain q hb cell]
  exact kept k o (by simpa [← cell] using other.symm)

end

theorem cellOf_wram (s : State) {a : Addr} (lo : 0xC000 ≤ a.toNat) (hi : a.toNat < 0xE000) :
    s.cellOf a = some (.wram, s.wramOffset (a.toNat - 0xC000)) := by
  unfold State.cellOf State.region
  dsimp only
  rw [if_neg (by omega), if_neg (by omega), if_neg (by omega), if_pos hi]

theorem cellOf_echo (s : State) {a : Addr} (lo : 0xE000 ≤ a.toNat) (hi : a.toNat < 0xFE00) :
    s.cellOf a = some (.wram, s.wramOffset (a.toNat - 0xE000)) := by
  unfold State.cellOf State.region
  dsimp only
  rw [if_neg (by omega), if_neg (by omega), if_neg (by omega), if_neg (by omega), if_pos hi]

theorem plainRam_of_range {a : Addr} (lo : 0xC000 ≤ a.toNat) (hi : a.toNat < 0xFE00) : plainRam a = true := by
  simp [plainRam, lo, hi]

/-- An address of WRAM below 0xDE00 and the one 0x2000 above it, in the echo, are one cell (R62). -/
theorem cellOf_add_0x2000 (s : State) {a : Addr} (lo : 0xC000 ≤ a.toNat) (hi : a.toNat < 0xDE00) :
    s.cellOf (a + 0x2000) = s.cellOf a := by
  have echo : (a + 0x2000).toNat = a.toNat + 0x2000 := by bv_omega
  have offset : (a + 0x2000).toNat - 0xE000 = a.toNat - 0xC000 := by omega
  rw [cellOf_echo s (by omega) (by omega), cellOf_wram s lo (by omega), offset]

/-- Settles O50: the echo clauses are instances of the one about addresses of the same cell. -/
theorem plainMemory : Obligations.PlainMemory := by
  intro s a b v q ha hb
  refine ⟨memRead_memWrite_sameCell q ha ha v rfl, memRead_memWrite_sameCell q ha hb v, fun lo hi => ?_, fun lo hi => ?_,
    memRead_memWrite_otherCell q ha hb v⟩
  · have below : (a - 0x2000).toNat = a.toNat - 0x2000 := by bv_omega
    have mirror := cellOf_add_0x2000 s (a := a - 0x2000) (by omega) (by omega)
    rw [BitVec.sub_add_cancel] at mirror
    exact memRead_memWrite_sameCell q ha (plainRam_of_range (by omega) (by omega)) v mirror
  · have above : (a + 0x2000).toNat = a.toNat + 0x2000 := by bv_omega
    exact memRead_memWrite_sameCell q ha (plainRam_of_range (by omega) (by omega)) v (cellOf_add_0x2000 s lo hi).symm

end Sys2Proof.Machine

/-! O54: the RTC of an MBC3 (20_memory.md R81, R84 to R87): the latch window, and the register SEL names at 0xA000-0xBFFF. -/

namespace Sys2Proof.Machine

/-- DH as a number: CARRY, HALT and D[8] (R84). -/
theorem Rtc.dh_eq (r : Rtc) :
    r.dh = BitVec.ofNat 8 ((if r.carry then 128 else 0) + (if r.halt then 64 else 0) + r.d.toNat / 256) := by
  have bits : ∀ c h t : Bool, bitAt 7 c ||| bitAt 6 h ||| bitAt 0 t =
      BitVec.ofNat 8 ((if c then 128 else 0) + (if h then 64 else 0) + t.toNat) := by decide
  have top : (r.d.getLsbD 8).toNat = r.d.toNat / 256 := by
    rw [BitVec.getLsbD, Nat.toNat_testBit]
    exact Nat.mod_eq_of_lt (by omega)
  rw [Rtc.dh, bits, top]

/-- A write of the latch window of 1 after 0 copies the live counters; any other only arms or disarms (R85). -/
theorem Rtc.latch_eq (r : Rtc) (v : Byte) :
    r.latch v =
      if r.latchArmed ∧ v = 0x01 then
        { r with latchedS := r.s, latchedM := r.m, latchedH := r.h, latchedDL := r.dl, latchedDH := r.dh, latchArmed := false }
      else { r with latchArmed := decide (v = 0x00) } := by
  by_cases copies : r.latchArmed ∧ v = 0x01
  · obtain ⟨armed, rfl⟩ := copies
    simp [Rtc.latch, armed]
  · have arms : ¬(r.latchArmed && v == 0x01) = true := by simpa using copies
    rw [if_neg copies, Rtc.latch, if_neg arms, Bool.beq_eq_decide_eq]

/-- With RAM enabled, the SEL of an RTC register selects it (R81, R84). -/
theorem window_rtc {c : Cart} (mbc3 : c.info.kind = .mbc3) (rtc : c.info.hasRtc = true) (enabled : c.ramEnabled = true) {r : RtcReg}
    (named : rtcRegOf c.sel = some r) (a : Addr) : c.window a = .rtc r := by
  have table : ∀ sel : BitVec 4, sel.toNat < 4 → rtcRegOf sel = none := by decide
  have notRam : ¬c.sel.toNat < 4 := fun bank => by simp [table _ bank] at named
  simp [Cart.window, mbc3, rtc, enabled, notRam, named]

/-- A read of a selected RTC register gives the snapshot and leaves the clock alone (R86). -/
theorem cartRead_rtc {s : State} {a : Addr} {r : RtcReg} (selected : s.cart.window a = .rtc r) :
    (s.cartRead a).1 = s.rtc.readLatched r ∧ (s.cartRead a).2.rtc = s.rtc := by
  simp [State.cartRead, selected]

/-- A write of a selected RTC register sets the live counter (R87). -/
theorem cartWrite_rtc {s : State} {a : Addr} {r : RtcReg} (selected : s.cart.window a = .rtc r) (v : Byte) :
    (s.cartWrite a v).rtc = s.rtc.writeLive r v := by
  simp [State.cartWrite, selected]

/-- SEL 8 to 12 each name a register (R84). -/
theorem rtcRegOf_range {sel : BitVec 4} (lo : 8 ≤ sel.toNat) (hi : sel.toNat ≤ 12) : ∃ r, rtcRegOf sel = some r := by
  have table : ∀ sel : BitVec 4, 8 ≤ sel.toNat → sel.toNat ≤ 12 → (rtcRegOf sel).isSome := by decide
  exact Option.isSome_iff_exists.1 (table sel lo hi)

/-- A day counter from its top bit and DL, as a number. -/
theorem dayCounter_append (top : BitVec 1) (low : Byte) : (top ++ low : BitVec 9) = BitVec.ofNat 9 (top.toNat * 256 + low.toNat) := by
  apply BitVec.eq_of_toNat_eq
  rw [BitVec.toNat_append, ← Nat.shiftLeft_add_eq_or_of_lt low.isLt, Nat.shiftLeft_eq]
  have := top.isLt
  have := low.isLt
  rw [BitVec.toNat_ofNat, Nat.mod_eq_of_lt (by omega)]

theorem Rtc.writeLive_dl (r : Rtc) (v : Byte) :
    r.writeLive .dl v = { r with d := BitVec.ofNat 9 (r.d.toNat / 256 * 256 + v.toNat) } := by
  have top : (r.d.extractLsb' 8 1).toNat = r.d.toNat / 256 := by
    rw [BitVec.extractLsb'_toNat, Nat.shiftRight_eq_div_pow]
    exact Nat.mod_eq_of_lt (by omega)
  rw [Rtc.writeLive, dayCounter_append, top]

theorem Rtc.writeLive_dh (r : Rtc) (v : Byte) :
    r.writeLive .dh v =
      { r with d := BitVec.ofNat 9 (v.toNat % 2 * 256 + r.d.toNat % 256), halt := bit v 6, carry := bit v 7 } := by
  rw [Rtc.writeLive, dayCounter_append, Rtc.dl, BitVec.extractLsb'_toNat, BitVec.extractLsb'_toNat]
  rfl

/-- Settles O54: the latch window is `Rtc.latch`; at 0xA000-0xBFFF the register SEL names is read from the snapshot and written live. -/
theorem rtcLatch : Obligations.RtcLatch := by
  refine ⟨fun s a v kind rtc idle lo hi => ?_, fun s a v kind rtc enabled lo hi => ?_⟩
  · rw [resolveWrite_low idle hi]
    have latches : (s.bankWrite a v).rtc = s.rtc.latch v := by simp [kind, rtc, lo]
    rw [latches, Rtc.latch_eq, Rtc.dh_eq, Rtc.dl]
  · have selects {r : RtcReg} (named : rtcRegOf s.cart.sel = some r) : s.cart.window a = .rtc r := window_rtc kind rtc enabled named a
    have reads {k : BitVec 4} {r : RtcReg} (named : rtcRegOf k = some r) (sel : s.cart.sel = k) :
        (s.resolveRead a).1 = s.rtc.readLatched r := by
      rw [resolveRead_cart s lo hi, (cartRead_rtc (selects (sel ▸ named))).1]
    refine ⟨?_, ?_, ?_, reads (r := .dl) rfl, reads (r := .dh) rfl, fun first last => ?_, fun idle => ?_⟩
    · exact fun sel => (reads (r := .s) rfl sel).trans (BitVec.ofNat_toNat 8 _).symm
    · exact fun sel => (reads (r := .m) rfl sel).trans (BitVec.ofNat_toNat 8 _).symm
    · exact fun sel => (reads (r := .h) rfl sel).trans (BitVec.ofNat_toNat 8 _).symm
    · obtain ⟨r, named⟩ := rtcRegOf_range first last
      rw [resolveRead_cart s lo hi, (cartRead_rtc (selects named)).2]
    · have writes {k : BitVec 4} {r : RtcReg} (named : rtcRegOf k = some r) (sel : s.cart.sel = k) :
          (s.resolveWrite a v).rtc = s.rtc.writeLive r v := by
        rw [resolveWrite_cart idle lo hi, cartWrite_rtc (selects (sel ▸ named))]
      exact ⟨writes (r := .s) rfl, writes (r := .m) rfl, writes (r := .h) rfl, fun sel => (writes rfl sel).trans (Rtc.writeLive_dl _ v),
        fun sel => (writes rfl sel).trans (Rtc.writeLive_dh _ v)⟩

end Sys2Proof.Machine

/-! O48: ROM and the bank numbers (20_memory.md R55, R74, R80, R81). -/

namespace Sys2Proof.Machine

/-- A CPU write to ROM's addresses reaches only the bank controller, which keeps memory, and leaves the machine quiet. -/
theorem memWrite_low_memory {s : State} (q : s.Quiet) {a : Addr} (low : a.toNat < 0x8000) (v : Byte) :
    (s.memWrite a v).memory = s.memory := by
  have hook := sameFrame_fire q.1 s.host.hooks.write (.write a s.hookOffset)
  have hooks := hook.trans (sameFrame_codeData (hook.quiet q).1 a .data)
  have quiet := hooks.quiet q
  have notP1 : isP1 a = false := by
    rw [isP1, beq_eq_false_iff_ne]
    rintro rfl
    exact absurd low (by decide)
  unfold State.memWrite
  generalize (s.fire s.host.hooks.write (.write a s.hookOffset)).codeData a .data = t at hooks quiet ⊢
  have bank : (t.bankWrite a v).Quiet := quiet
  obtain ⟨-, -, idle, -⟩ := quiet
  have writes : t.cpuWrite a v = t.bankWrite a v := by
    rw [State.cpuWrite, notP1, if_neg (by decide), resolveWrite_low idle low]
  calc ((t.cpuWrite a v).deviceCycle true).memory
      = ((t.bankWrite a v).deviceCycle true).memory := by rw [writes]
    _ = (t.bankWrite a v).memory := (sameFrame_deviceCycle bank true).memory
    _ = t.memory := rfl
    _ = s.memory := hooks.memory

/-- The controllers whose rules give no RAM bank: MBC2, and MBC3 where SEL selects no RAM (R80, R81). -/
theorem ramValue_eq_none_iff (c : Cart) : c.ramValue = none ↔ c.info.kind = .mbc2 ∨ (c.info.kind = .mbc3 ∧ 4 ≤ c.sel.toNat) := by
  cases kind : c.info.kind <;> simp [Cart.ramValue, kind]

/-- With RAM banks the RAM bank is the controller's, reduced (R74). -/
theorem ramBank_eq_map {c : Cart} (banks : 0 < c.info.ramBanks) : c.ramBank = c.ramValue.map (· % c.info.ramBanks) := if_neg banks.ne'

/-- Settles O48: writes below 0x8000 reach only the controller, and a reduced bank number is below the number of banks. -/
theorem romAndBanks : Obligations.RomAndBanks := by
  refine ⟨fun s a v q low => memWrite_low_memory q low v, fun c banks => ?_, fun c banks => ?_⟩
  · exact ⟨Nat.mod_lt _ banks, Nat.mod_lt _ banks, rfl, rfl⟩
  · rw [ramBank_eq_map banks]
    refine ⟨fun b given => ?_, rfl, by rw [Option.map_eq_none_iff, ramValue_eq_none_iff]⟩
    obtain ⟨value, -, rfl⟩ := Option.map_eq_some_iff.1 given
    exact Nat.mod_lt _ banks

end Sys2Proof.Machine

/-! O1: every instruction decodes from its encoding (30_encoding.md R98, R111 to R113). -/

namespace Sys2Proof.Laws.RoundTrip

/-- The round trip of every instruction: where there is a 16-bit operand its two bytes make it again, everywhere else decoding the
encoding computes. -/
theorem statement (i : Instr) : Statement i := by
  induction i using Laws.instr_cases with
  | ldPair_ p nn =>
    cases p
    exacts [ldBCImm16 nn, ldDEImm16 nn, ldHLImm16 nn, ldSPImm16 nn]
  | jpCond_ cc nn =>
    cases cc
    exacts [jpNZImm16 nn, jpZImm16 nn, jpNCImm16 nn, jpCImm16 nn]
  | callCond_ cc nn =>
    cases cc
    exacts [callNZImm16 nn, callZImm16 nn, callNCImm16 nn, callCImm16 nn]
  | ldAtImm16SP_ nn => exact ldAtImm16SP nn
  | jpImm16_ nn => exact jpImm16 nn
  | callImm16_ nn => exact callImm16 nn
  | ldAtImm16A_ nn => exact ldAtImm16A nn
  | ldAAtImm16_ nn => exact ldAAtImm16 nn
  | ldReg_ dst src => cases dst <;> cases src <;> exact ⟨rfl, fun _ => rfl⟩
  | alu_ op v | shift_ op v | bit_ op v | res_ op v | set_ op v =>
    cases op <;> obtain (_ | _ | _ | _ | _ | _ | _) | _ := v <;> exact ⟨rfl, fun _ => rfl⟩
  | inc_ v | dec_ v => obtain (_ | _ | _ | _ | _ | _ | _) | _ := v <;> exact ⟨rfl, fun _ => rfl⟩
  | ldImm_ code _ | aluImm_ code _ | jrCond_ code _ | ldFromHL_ code | ldToHL_ code | push_ code | pop_ code | addHL_ code
  | incPair_ code | decPair_ code | retCond_ code | rst_ code | illegal_ code => cases code <;> exact ⟨rfl, fun _ => rfl⟩
  | _ => exact ⟨rfl, fun _ => rfl⟩

end Sys2Proof.Laws.RoundTrip

namespace Sys2Proof

theorem length_of_bytesWellFormed {bs : List Byte} (wf : bytesWellFormed bs = true) : bs.length = instrLength (bs.headD 0) := by
  cases bs with
  | nil => contradiction
  | cons op tl => exact beq_iff_eq.1 wf

theorem encode_wellFormed (i : Instr) : bytesWellFormed (encode i) = true := (Laws.RoundTrip.statement i).1

theorem length_encode (i : Instr) : (encode i).length = instrLength ((encode i).headD 0) :=
  length_of_bytesWellFormed (encode_wellFormed i)

theorem decode_encode_append (i : Instr) (rest : List Byte) : decode (encode i ++ rest) = .ok (i, rest) :=
  (Laws.RoundTrip.statement i).2 rest

theorem decode_encode (i : Instr) : decode (encode i) = .ok (i, []) := by
  simpa using decode_encode_append i []

/-- Settles O1: the round trip of each family, and the length that well-formed bytes have. -/
theorem decodeEncode : Obligations.DecodeEncode :=
  fun i rest => ⟨encode_wellFormed i, length_encode i, decode_encode_append i rest⟩

end Sys2Proof

/-! O2: the bytes a decoding uses are the encoding of what it gives (R111 to R113). Each map, with the encodings of its instructions in
its cells, is the 16 by 16 map of the bytes that lead the decoder to the cell. -/

namespace Sys2Proof

/-- The 16 by 16 map whose cell at a byte is a function of the byte. -/
def byteMap {α : Type} (g : Byte → α) : List (List α) :=
  (List.range 16).map fun h => (List.range 16).map fun l => g (BitVec.ofNat 8 (16 * h + l))

theorem cellAt_byteMap {α : Type} (g : Byte → α) (op : Byte) : cellAt (byteMap g) op = some (g op) := by
  have row : op.toNat / 16 < 16 := by omega
  have column : op.toNat % 16 < 16 := Nat.mod_lt _ (by decide)
  simp [cellAt, byteMap, row, column, Nat.div_add_mod]

theorem cellAt_map {α β : Type} (f : α → β) (m : List (List α)) (op : Byte) :
    cellAt (m.map (List.map f)) op = (cellAt m op).map f := by
  unfold cellAt
  rw [List.getElem?_map]
  cases m[op.toNat / 16]? with
  | none => rfl
  | some row => exact List.getElem?_map

/-- The encoding of the instruction in a cell of the base map, for given operands; of the page of the CB map, its two bytes. -/
def Row.encoding (n : Byte) (nn : Addr) : Row → List Byte
  | .f1 i => encode i
  | .f2 f => encode (f n)
  | .f3 f => encode (f nn)
  | .cbPage => [0xCB, n]

/-- The bytes that follow the first byte of an instruction, by its length (R98). -/
def operandBytes (n : Byte) (nn : Addr) : Nat → List Byte
  | 2 => [n]
  | 3 => [loByte nn, hiByte nn]
  | _ => []

theorem baseMap_encoding (n : Byte) (nn : Addr) :
    baseMap.map (List.map (Row.encoding n nn)) = byteMap fun op => op :: operandBytes n nn (instrLength op) := rfl

theorem cbMap_encoding : cbMap.map (List.map encode) = byteMap fun op => [0xCB, op] := by decide +kernel

/-- Every first byte has a cell of the base map, of the length R113 gives. -/
theorem exists_cell (op : Byte) : ∃ row, cellAt baseMap op = some row ∧ row.length = instrLength op :=
  Option.map_eq_some_iff.1 (baseMap_length op)

section
variable {op : Byte}

theorem encoding_of_cell {row : Row} (cell : cellAt baseMap op = some row) (n : Byte) (nn : Addr) :
    row.encoding n nn = op :: operandBytes n nn row.length := by
  obtain ⟨row', cell', length⟩ := exists_cell op
  obtain rfl := Option.some.inj (cell.symm.trans cell')
  have both := cellAt_byteMap (fun op => op :: operandBytes n nn (instrLength op)) op
  rw [← baseMap_encoding, cellAt_map, cell, ← length] at both
  exact Option.some.inj both

theorem encode_of_f1 {i : Instr} (cell : cellAt baseMap op = some (.f1 i)) : encode i = [op] := encoding_of_cell cell 0 0

theorem encode_of_f2 {f : Byte → Instr} (cell : cellAt baseMap op = some (.f2 f)) (n : Byte) : encode (f n) = [op, n] :=
  encoding_of_cell cell n 0

theorem encode_of_f3 {f : Addr → Instr} (cell : cellAt baseMap op = some (.f3 f)) (lo hi : Byte) :
    encode (f (word hi lo)) = [op, lo, hi] := by
  have low : loByte (word hi lo) = lo := BitVec.extractLsb'_append_eq_right
  have high : hiByte (word hi lo) = hi := BitVec.extractLsb'_append_eq_left
  have bytes : encode (f (word hi lo)) = [op, loByte (word hi lo), hiByte (word hi lo)] := encoding_of_cell cell 0 _
  rwa [low, high] at bytes

theorem eq_0xCB_of_cbPage (cell : cellAt baseMap op = some .cbPage) : op = 0xCB :=
  (List.head_eq_of_cons_eq (encoding_of_cell cell 0 0)).symm

theorem encode_of_cbCell {i : Instr} (cell : cellAt cbMap op = some i) : encode i = [0xCB, op] := by
  have both := cellAt_byteMap (fun op => [(0xCB : Byte), op]) op
  rw [← cbMap_encoding, cellAt_map, cell] at both
  exact Option.some.inj both

end

/-- Settles O2: the cell at the first byte fixes both the bytes the decoder uses and the instruction it gives. -/
theorem encodeDecode : Obligations.EncodeDecode := by
  intro bs rest i decodes
  cases bs with
  | nil => contradiction
  | cons op tl =>
    obtain ⟨row, cell, -⟩ := exists_cell op
    cases row with
    | f1 j =>
      simp only [decode, cell, Except.ok.injEq, Prod.mk.injEq] at decodes
      obtain ⟨rfl, rfl⟩ := decodes
      rw [encode_of_f1 cell, List.singleton_append]
    | f2 f =>
      cases tl with
      | nil => simp [decode, cell] at decodes
      | cons n tl =>
        simp only [decode, cell, Except.ok.injEq, Prod.mk.injEq] at decodes
        obtain ⟨rfl, rfl⟩ := decodes
        rw [encode_of_f2 cell n]; rfl
    | f3 f =>
      match tl with
      | [] | [_] => simp [decode, cell] at decodes
      | lo :: hi :: tl =>
        simp only [decode, cell, Except.ok.injEq, Prod.mk.injEq] at decodes
        obtain ⟨rfl, rfl⟩ := decodes
        rw [encode_of_f3 cell lo hi]; rfl
    | cbPage =>
      cases tl with
      | nil => simp [decode, cell] at decodes
      | cons second tl =>
        obtain ⟨j, cbCell⟩ := Option.isSome_iff_exists.1 (cbMap_filled second)
        simp only [decode, cell, cbCell, Except.ok.injEq, Prod.mk.injEq] at decodes
        obtain ⟨rfl, rfl⟩ := decodes
        rw [encode_of_cbCell cbCell, eq_0xCB_of_cbPage cell]; rfl

end Sys2Proof

/-! O3: decoding is total (R113, R120), and the illegal rows are instructions (R114). -/

namespace Sys2Proof

/-- A first byte with fewer bytes after it than it asks for is refused (notes/assumptions/53.md). -/
theorem decode_tooShort {op : Byte} {tl : List Byte} (short : tl.length + 1 < instrLength op) :
    decode (op :: tl) = .error .missingOperand := by
  obtain ⟨row, cell, length⟩ := exists_cell op
  rw [← length] at short
  cases row with
  | f1 i => simp [Row.length] at short
  | f2 f | cbPage =>
    cases tl with
    | nil => simp [decode, cell]
    | cons n tl => simp [Row.length] at short
  | f3 f =>
    match tl with
    | [] | [_] => simp [decode, cell]
    | _ :: _ :: _ => simp [Row.length, Nat.add_assoc] at short

/-- The eleven illegal bytes are the encodings of the illegal instructions (R114). -/
theorem exists_illegal {op : Byte} (listed : op ∈ [0xD3, 0xDB, 0xDD, 0xE3, 0xE4, 0xEB, 0xEC, 0xED, 0xF4, 0xFC, 0xFD]) :
    ∃ k, encode (.illegal k) = [op] := by
  revert op
  simp only [List.forall_mem_cons, List.not_mem_nil, false_imp_iff, implies_true, and_true]
  exact ⟨⟨.opD3, rfl⟩, ⟨.opDB, rfl⟩, ⟨.opDD, rfl⟩, ⟨.opE3, rfl⟩, ⟨.opE4, rfl⟩, ⟨.opEB, rfl⟩, ⟨.opEC, rfl⟩, ⟨.opED, rfl⟩,
    ⟨.opF4, rfl⟩, ⟨.opFC, rfl⟩, ⟨.opFD, rfl⟩⟩

/-- Settles O3: enough bytes decode and too few do not; an illegal byte is the encoding of an illegal instruction, so it decodes to it. -/
theorem decodeTotal : Obligations.DecodeTotal := by
  refine ⟨decode_enough, fun op tl => decode_tooShort, fun op listed => ?_, Machine.exec_illegal⟩
  obtain ⟨k, bytes⟩ := exists_illegal listed
  exact ⟨k, bytes ▸ decode_encode (.illegal k)⟩

end Sys2Proof

/-! O5 and O6: the step that runs an instruction (R119). -/

namespace Sys2Proof.Machine

section
variable {s : State} {i : Instr} {rest : List Byte} (runs : s.RunsInstr) (decodes : decode s.startInstr.fetchInstr.1 = .ok (i, rest))
include runs decodes

/-- A step that runs an instruction is `exec` of what its fetches decode to, or is refused for what a hook did in it. -/
theorem step_of_decode : step s = unlessMisused (exec i s.startInstr.fetchInstr.2) := by
  have cpuStep := cpuStep_instr runs
  obtain ⟨⟨loaded, unmarked, -⟩, -⟩ := runs
  rw [step_running loaded unmarked, cpuStep, State.runInstr, decodes]

theorem step_of_decode_of_behave (behave : s.HooksBehave) : step s = exec i s.startInstr.fetchInstr.2 := by
  rw [step_instr runs behave, State.runInstr, decodes]

end

/-- Settles O5: the CPU step is `exec` of what the fetches decode to, and a step is the CPU step unless a hook misused. -/
theorem stepRunsDecoded : Obligations.StepRunsDecoded := fun _ _ _ runs decodes =>
  ⟨step_of_decode runs decodes, step_of_decode_of_behave runs decodes⟩

/-- Where the encoding of an instruction lies at PC, the fetches give it. -/
theorem fetchInstr_encode {s : State} (quiet : s.Quiet) (noBug : s.cpu.haltBug = false) {i : Instr}
    (code : s.codeBytes s.cpu.pc (encode i).length = some (encode i)) : s.fetchInstr.1 = encode i := by
  have length := length_encode i
  cases bytes : encode i with
  | nil =>
    rw [bytes] at length
    exact absurd length (by decide)
  | cons op tl =>
    rw [bytes] at length code
    exact fetchInstr_code quiet noBug length code

/-- Settles O6: the fetches give the encoding, which decodes to the instruction; the state it runs in is the fetched one with the low
register that `LD rr,nn` writes early put back (`exec_fetched`). -/
theorem stepRunsMemory : Obligations.StepRunsMemory := by
  intro s i runs quiet noBug code
  have start := sameFrame_startInstr quiet
  have startCore := startInstr_core s
  have startPc : s.startInstr.cpu.pc = s.cpu.pc := by rw [pc_core, startCore]; rfl
  have startNoBug : s.startInstr.cpu.haltBug = false := by rw [haltBug_core, startCore]; exact noBug
  have fetched : s.startInstr.fetchInstr.1 = encode i :=
    fetchInstr_encode (start.quiet quiet) startNoBug (by rw [startPc, codeBytes_same start, code])
  have decodes : decode s.startInstr.fetchInstr.1 = .ok (i, []) := by rw [fetched, decode_encode]
  obtain ⟨c, meaning, core⟩ := exec_fetched startNoBug decodes
  have time := ((progress_startInstr s).trans (progress_fetchInstr s.startInstr)).ticks.cycles
  have frame := start.trans (sameFrame_fetchInstr (start.quiet quiet))
  rw [fetched, zero_add] at time
  rw [fetched, startPc, startCore] at core
  exact ⟨{ s.startInstr.fetchInstr.2 with cpu := c },
    (step_of_decode_of_behave runs decodes (behave_of_no_replies quiet.1)).trans meaning.symm, core, time, frame.memory, frame.control⟩

end Sys2Proof.Machine

/-! O11: the M-cycles of an instruction (R121; 70_reset_and_hazards.md R275). The fetches take one per byte of the encoding and keep F, so
the meaning takes the rest of the table's count, by the conditions before the step. -/

namespace Sys2Proof.Machine

/-- No fetch writes F. -/
theorem fetchInstr_f (s : State) : s.fetchInstr.2.core.f = s.core.f := by
  have op : s.fetchOp.2.core.f = s.core.f := by rw [fetchOp_core]; split <;> rfl
  have operands := congrArg Cpu.f (fetchOperands_core s.fetchOp.2 s.fetchOp.1 (instrLength s.fetchOp.1 - 1))
  have low := congrArg Cpu.f (withLow_other s.fetchOp.2.core s.fetchInstr.1)
  exact (operands.trans low).trans op

/-- A condition reads F alone. -/
theorem cond_of_f {s t : State} (same : t.core.f = s.core.f) : t.cond = s.cond := by
  funext cc
  cases cc <;> simp [State.cond, flagZ_core, flagC_core, Cpu.flags, same]

theorem cond_fetched (s : State) : s.startInstr.fetchInstr.2.cond = s.cond :=
  cond_of_f ((fetchInstr_f s.startInstr).trans (by rw [startInstr_core]))

/-- Outside the CB page the count depends on the first byte alone (R275). -/
theorem tableCycles_base {op : Byte} (notPage : op ≠ 0xCB) (taken : Cond → Bool) (tl : List Byte) :
    tableCycles taken (op :: tl) =
      match branchCond op with
      | some cc => if taken cc then baseCycles.getD op.toNat 0 else untakenCycles op
      | none => baseCycles.getD op.toNat 0 := by
  unfold tableCycles
  split
  · rename_i h; exact absurd (List.head_eq_of_cons_eq h) notPage
  · rename_i h; cases h; rfl
  · rename_i h; cases h

theorem instrLength_le_counts : ∀ op : Byte, op ≠ 0xCB →
    instrLength op ≤ baseCycles.getD op.toNat 0 ∧ instrLength op ≤ untakenCycles op := by decide +kernel

theorem two_le_cbCycles (op : Byte) : 2 ≤ cbCycles op := by
  unfold cbCycles; split
  · split <;> decide
  · exact le_rfl

/-- The table's count covers the fetches. -/
theorem length_le_tableCycles (taken : Cond → Bool) {bs : List Byte} (wf : bytesWellFormed bs = true) :
    bs.length ≤ tableCycles taken bs := by
  cases bs with
  | nil => contradiction
  | cons op tl =>
    have length : (op :: tl).length = instrLength op := length_of_bytesWellFormed wf
    by_cases page : op = 0xCB
    · subst page
      obtain ⟨second, rfl⟩ := List.length_eq_one_iff.1 (Nat.succ.inj length)
      exact two_le_cbCycles second
    · obtain ⟨base, untaken⟩ := instrLength_le_counts op page
      rw [length, tableCycles_base page]
      split
      · split
        · exact base
        · exact untaken
      · exact base

theorem length_add_restCycles (taken : Cond → Bool) (i : Instr) :
    (encode i).length + restCycles taken i = tableCycles taken (encode i) :=
  Nat.add_sub_cancel' (length_le_tableCycles taken (encode_wellFormed i))

theorem decode_of_nextInstr {s : State} {i : Instr} (next : s.nextInstr = some i) :
    decode s.startInstr.fetchInstr.1 = .ok (i, []) := by
  obtain ⟨j, decodes⟩ := decode_fetched s.startInstr
  unfold State.nextInstr at next
  rw [decodes] at next ⊢
  rw [Option.some.inj next]

/-- Settles O11: the fetches take the length of the encoding, and the meaning the rest of the table's count. -/
theorem instrCycles : Obligations.InstrCycles := by
  intro s i runs behave next
  have decodes := decode_of_nextInstr next
  have fetched : s.startInstr.fetchInstr.1 = encode i := by rw [encodeDecode _ _ _ decodes, List.append_nil]
  obtain ⟨t, answers, rest⟩ := meaning i s.startInstr.fetchInstr.2
  have time := (((progress_startInstr s).trans (progress_fetchInstr s.startInstr)).trans rest).ticks.cycles
  rw [fetched, cond_fetched, zero_add, length_add_restCycles] at time
  exact ⟨t, (step_of_decode_of_behave runs decodes behave).trans answers, time⟩

end Sys2Proof.Machine

/-! O22, O23 and O24: the 8-bit loads and stores through memory (40_load8.md R125 to R141). Each is one bus access and an update of the
CPU, so what it leaves is what `MemRead` or `MemWrite` leaves, with the new registers. -/

namespace Sys2Proof.Machine

/-- The address of `(n)` and `(C)` (R122) as its rules write it. -/
theorem highPage_eq_or (n : Byte) : highPage n = 0xFF00 ||| n.setWidth 16 := BitVec.append_def 0xFF n

theorem memRead_cycles (s : State) (a : Addr) : (s.memRead a).2.cycles = s.cycles + 4 := (ticks_memRead s a).cycles

theorem memWrite_cycles (s : State) (a : Addr) (v : Byte) : (s.memWrite a v).cycles = s.cycles + 4 := (ticks_memWrite s a v).cycles

/-- A read, with any update of the CPU after it, disturbs no memory and no special register. -/
theorem memRead_undisturbed (s : State) (a : Addr) (c : Cpu) : s.Undisturbed { (s.memRead a).2 with cpu := c } := fun q =>
  have frame := (sameFrame_memRead q a).trans (.cpu _ c)
  ⟨frame.memory, frame.control⟩

/-- A meaning that is a load from an address (R125, R128, R129, R132, R134, R136). -/
theorem loads_of_exec {i : Instr} {s : State} {r : Reg8} {a : Addr} (meaning : exec i s = .next (s.loadFrom r a)) : Loads i s r a :=
  ⟨_, meaning, by simp [State.loadFrom], memRead_cycles s a, memRead_undisturbed s a _⟩

/-- A meaning that is a store at an address (R126, R127, R130, R131, R133, R135, R137). -/
theorem stores_of_exec {i : Instr} {s : State} {a : Addr} {v : Byte} (meaning : exec i s = .next (s.storeAt a v)) : Stores i s a v :=
  ⟨_, meaning, memWrite_core s a v, memWrite_cycles s a v, memWrite_wrote s a v⟩

/-- Settles O22: each load's meaning is a load from its address, and a read of ROM or plain RAM gives the byte there. -/
theorem loadFromMemory : Obligations.LoadFromMemory := fun s =>
  ⟨fun r => loads_of_exec (exec_ldFromHL r s),
    loads_of_exec rfl,
    loads_of_exec rfl,
    fun _ => loads_of_exec rfl,
    highPage_eq_or s.cpu.c ▸ loads_of_exec rfl,
    fun n => highPage_eq_or n ▸ loads_of_exec rfl,
    fun q _ _ => memRead_code q⟩

/-- Settles O23: each store's meaning is a store at its address. -/
theorem storeToMemory : Obligations.StoreToMemory := fun s =>
  ⟨fun r => stores_of_exec (exec_ldToHL r s),
    fun _ => stores_of_exec rfl,
    stores_of_exec rfl,
    stores_of_exec rfl,
    fun _ => stores_of_exec rfl,
    highPage_eq_or s.cpu.c ▸ stores_of_exec rfl,
    fun n => highPage_eq_or n ▸ stores_of_exec rfl⟩

/-- What a load that steps HL by `d` leaves (R138, R140). -/
theorem loadStep_leaves (s : State) (d : Addr) :
    (s.loadStep d).core = (s.core.setReg .a (s.memRead s.hl).1).setPair .hl (s.hl + d) ∧
    (s.loadStep d).cycles = s.cycles + 4 ∧ s.Undisturbed (s.loadStep d) :=
  ⟨by simp [State.loadStep], memRead_cycles s s.hl, memRead_undisturbed s s.hl _⟩

/-- What a store that steps HL by `d` leaves (R139, R141). -/
theorem storeStep_leaves (s : State) (d : Addr) :
    (s.storeStep d).core = s.core.setPair .hl (s.hl + d) ∧
    (s.storeStep d).cycles = s.cycles + 4 ∧ s.Wrote (s.storeStep d) s.hl s.cpu.a :=
  ⟨by simp [State.storeStep], memWrite_cycles s s.hl s.cpu.a, memWrite_wrote s s.hl s.cpu.a⟩

/-- Settles O24: the steps of HL are 1 and -1. -/
theorem loadStoreStep : Obligations.LoadStoreStep := by
  intro s hl
  have decrement : hl - 1 = hl + -1 := sub_eq_add_neg hl 1
  rw [decrement]
  exact ⟨⟨_, rfl, loadStep_leaves s 1⟩, ⟨_, rfl, loadStep_leaves s (-1)⟩, ⟨_, rfl, storeStep_leaves s 1⟩,
    ⟨_, rfl, storeStep_leaves s (-1)⟩⟩

end Sys2Proof.Machine

/-! O4: the words are the encodings of their instructions (R123, R124, R142, R151, R165, R173, R182, R190, R196, R204). -/

namespace Sys2Proof

theorem decode_of_encode {i : Instr} {bs : List Byte} (encodes : encode i = bs) : decode bs = .ok (i, []) := by
  rw [← encodes, decode_encode]

/-- Settles O4 by the round trip: each word is what its instruction encodes to. -/
theorem decodeWords : Obligations.DecodeWords := by
  unfold Obligations.DecodeWords
  and_intros <;> exact decode_of_encode rfl

end Sys2Proof

/-! O21: the register and immediate loads (40_load8.md R123, R124; 41_load16.md R142) by what a register reads after a write to one. -/

namespace Sys2Proof.Machine

theorem reg_setReg (s : State) (dst r : Reg8) (v : Byte) : (s.setReg dst v).reg r = if r = dst then v else s.reg r := by
  cases dst <;> cases r <;> rfl

/-- A write to a register gives it the value and leaves everything else. -/
theorem setReg_writes (s : State) (dst : Reg8) (v : Byte) :
    (s.setReg dst v).reg dst = v ∧ (∀ r, r ≠ dst → (s.setReg dst v).reg r = s.reg r) ∧
    s.setReg dst v = { s with cpu := s.cpu.setReg dst v } :=
  ⟨by rw [reg_setReg, if_pos rfl], fun r other => by rw [reg_setReg, if_neg other], rfl⟩

/-- Settles O21: each meaning is one write to a register or a pair. -/
theorem loadRegister : Obligations.LoadRegister := fun s =>
  ⟨fun dst src => ⟨_, exec_ldReg dst src s, setReg_writes s dst (s.reg src)⟩,
    fun dst n => ⟨_, exec_ldImm dst n s, setReg_writes s dst n⟩,
    fun nn => ⟨exec_ldPair .bc nn s, exec_ldPair .de nn s, exec_ldPair .hl nn s, exec_ldPair .sp nn s⟩⟩

end Sys2Proof.Machine

/-! O25, O26, O27 and O28: the stack and the stack pointer (41_load16.md R143 to R148; 43_alu16.md R168). -/

namespace Sys2Proof.Machine

/-- An operation that disturbs nothing on a quiet machine, with any update of the CPU after it. -/
theorem undisturbed_of_frame {s t : State} (frame : s.Quiet → SameFrame s t) (c : Cpu) : s.Undisturbed { t with cpu := c } := fun q =>
  have after := (frame q).trans (.cpu t c)
  ⟨after.memory, after.control⟩

theorem sameFrame_twoInternals {s : State} (quiet : s.Quiet) : SameFrame s s.internal.internal :=
  have first := sameFrame_internal quiet
  first.trans (sameFrame_internal (first.quiet quiet))

/-! A pair and its two bytes (R17). -/

@[simp] theorem hiByte_word (hi lo : Byte) : hiByte (word hi lo) = hi := BitVec.extractLsb'_append_eq_left

@[simp] theorem loByte_word (hi lo : Byte) : loByte (word hi lo) = lo := BitVec.extractLsb'_append_eq_right

/-- The two bytes of an address give it back. -/
theorem hiByte_append_loByte (v : Addr) : hiByte v ++ loByte v = v :=
  BitVec.extractLsb'_append_extractLsb' (w := 8) (len := 8)

/-! The stack. -/

/-- PUSH leaves two stores below SP, the high byte of the pair first (R145). -/
theorem pushPair_wroteTwo (s : State) (q : StackPair) :
    s.WroteTwo (s.internal.pushByte (hiByte (s.stackPair q))) (s.pushPair q) (s.cpu.sp - 1) (s.cpu.sp - 2)
      (hiByte (s.stackPair q)) (loByte (s.stackPair q)) := fun quiet =>
  have sp : s.internal.cpu.sp = s.cpu.sp := by rw [sp_core, internal_core, sp_core]
  sp ▸ (sameFrame_internal quiet).wroteTwo (push_wroteTwo s.internal _ _) quiet

theorem pushPair_core (s : State) (q : StackPair) : (s.pushPair q).core = { s.core with sp := s.cpu.sp - 2 } := by
  rw [State.pushPair, pushWord_core, sp_core, internal_core]; rfl

/-- Settles O25: an internal cycle and the two stores of a push. -/
theorem pushPair : Obligations.PushPair := by
  intro s q v
  have value : v = s.stackPair q := by cases q <;> rfl
  rw [value]
  exact ⟨_, exec_push q s, pushPair_core s q, ((ticks_internal s).trans (ticks_pushWord _ _)).cycles, pushPair_wroteTwo s q⟩

/-- The value POP writes: the byte read second above the byte read first (R146). -/
theorem popWord_fst (s : State) : s.popWord.1 = word s.popHi s.popLo := by
  have second : s.popByte.2.cpu.sp = s.cpu.sp + 1 := by rw [sp_core, popByte_core]
  rw [State.popWord, State.popHi, ← second]; rfl

/-- On a quiet machine the second read of a pop sees the memory the first one saw. -/
theorem popsMemory (s : State) : s.PopsMemory := fun quiet =>
  have first := sameFrame_popByte quiet
  ⟨fun _ => memRead_code quiet, fun _ code => memRead_code (first.quiet quiet) ((codeByte_same first _).trans code)⟩

/-- What POP of a pair leaves (R146, R147). -/
theorem popPair_leaves (s : State) (q : StackPair) : ∃ t, exec (.pop q) s = .next t ∧
    t.core = { s.core with sp := s.cpu.sp + 2 }.setStackPair q (word s.popHi s.popLo) ∧ t.cycles = s.cycles + 8 ∧ s.Undisturbed t :=
  ⟨s.popPair q, exec_pop q s, by rw [State.popPair, setStackPair_core, popWord_core, popWord_fst], (ticks_popWord s).cycles,
    undisturbed_of_frame sameFrame_popWord _⟩

/-- Settles O26: each form is the write of its pair with the popped bytes. -/
theorem popPair : Obligations.PopPair := by
  intro s
  have bc := popPair_leaves s .bc
  have de := popPair_leaves s .de
  have hl := popPair_leaves s .hl
  have af := popPair_leaves s .af
  simp only [Cpu.setStackPair, Cpu.setPair, Cpu.setReg, Cpu.setFlags, hiByte_word, loByte_word] at bc de hl af
  exact ⟨popsMemory s, bc, de, hl, af⟩

/-- Settles O27: the two stores of SP at neighbouring addresses. -/
theorem storeSp : Obligations.StoreSp := fun s nn =>
  ⟨s.storeSp nn, rfl, by rw [State.storeSp, memWrite_core, memWrite_core],
    ((ticks_memWrite s nn _).trans (ticks_memWrite _ _ _)).cycles, memWrite_wroteTwo s _ _ (.inl rfl)⟩

/-! Sums with SP. -/

/-- The sum of an address and a signed byte, modulo 2^16 (R18). -/
theorem toNat_add_sext16 (a : Addr) (e : Byte) : ((a + sext16 e).toNat : Int) = ((a.toNat : Int) + e.toInt) % 65536 := by
  simp only [sext16, BitVec.signExtend, BitVec.toNat_add, BitVec.toNat_ofInt]
  omega

theorem flags_putFlags (s : State) (z n h c : Bool) : (s.putFlags z n h c).flags = mkFlags z n h c := by
  show (mkFlags z n h c &&& 0xF0) &&& 0xF0 = mkFlags z n h c
  revert z n h c
  decide

/-- The four flags after they are written (R34). -/
theorem flagBits_putFlags (s : State) (z n h c : Bool) :
    (s.putFlags z n h c).flagZ = z ∧ (s.putFlags z n h c).flagN = n ∧ (s.putFlags z n h c).flagH = h ∧
    (s.putFlags z n h c).flagC = c := by
  simp only [State.flagZ, State.flagN, State.flagH, State.flagC, flags_putFlags]
  revert z n h c
  decide

/-- What LD HL,SP+e changes of the CPU (R148). -/
theorem hlFromSp_core (s : State) (e : Byte) :
    (s.hlFromSp e).core = (s.core.setPair .hl (s.cpu.sp + sext16 e)).setFlags
      (mkFlags false false (addSpHalf s.cpu.sp e) (addSpCarry s.cpu.sp e)) := by
  rw [State.hlFromSp, putFlags_core, setHl_core, internal_core]

/-- What ADD SP,e changes of the CPU (R168). -/
theorem addSp_core (s : State) (e : Byte) :
    (s.addSp e).core = { s.core with sp := s.cpu.sp + sext16 e }.setFlags
      (mkFlags false false (addSpHalf s.cpu.sp e) (addSpCarry s.cpu.sp e)) := by
  rw [State.addSp, putFlags_core, setSp_core, internal_core, internal_core]

/-- Settles O28: HL and SP take the sum, and the flags are those of the low bytes. -/
theorem stackPointer : Obligations.StackPointer := by
  intro s
  refine ⟨⟨s.spFromHl, rfl, ?_, (ticks_internal s).cycles, undisturbed_of_frame sameFrame_internal _⟩, fun e => ?_, fun e => ?_⟩
  · rw [State.spFromHl, setSp_core, internal_core]; rfl
  · have hl : (s.hlFromSp e).cpu.h ++ (s.hlFromSp e).cpu.l = s.cpu.sp + sext16 e := hiByte_append_loByte _
    obtain ⟨z, n, h, c⟩ :=
      flagBits_putFlags (s.internal.setHl (s.cpu.sp + sext16 e)) false false (addSpHalf s.cpu.sp e) (addSpCarry s.cpu.sp e)
    exact ⟨s.hlFromSp e, rfl, by rw [hl, toNat_add_sext16], by rw [hlFromSp_core]; rfl, z, n, h, c, (ticks_internal s).cycles,
      undisturbed_of_frame sameFrame_internal _⟩
  · obtain ⟨z, n, h, c⟩ :=
      flagBits_putFlags (s.internal.internal.setSp (s.cpu.sp + sext16 e)) false false (addSpHalf s.cpu.sp e) (addSpCarry s.cpu.sp e)
    exact ⟨s.addSp e, rfl, toNat_add_sext16 s.cpu.sp e, by rw [addSp_core]; rfl, z, n, h, c,
      ((ticks_internal s).trans (ticks_internal _)).cycles, undisturbed_of_frame sameFrame_twoInternals _⟩

end Sys2Proof.Machine

/-! The flags and results of the 8-bit operations (42_alu8.md R150 to R164): what a state holds after a result and its flags are written,
and the rule's forms of an operation, from the result alone. -/

namespace Sys2Proof.Machine

/-- Writing the four flags after A leaves every other register and latch. -/
theorem computed_putFlags {s t : State} {a : Byte} (core : t.core = s.core.setReg .a a) (z n h c : Bool) :
    s.Computed (t.putFlags z n h c) a z n h c := by
  obtain ⟨hz, hn, hh, hc⟩ := flagBits_putFlags t z n h c
  refine ⟨congrArg Cpu.a core, hz, hn, hh, hc, low_flags _, ?_⟩
  rw [putFlags_core, core]
  rfl

/-- An accumulator operation, in any state with the registers of `s`, leaves its result and the flags of it. -/
theorem accumulate_computed {s u : State} (core : u.core = s.core) {op : AluOp} {v value : Byte} {z n h c : Bool}
    (result : aluResult op s.cpu.a v s.flagC = ⟨value, z, n, h, c⟩) : s.Computed (u.accumulate op v) value z n h c := by
  have a : u.cpu.a = s.cpu.a := show u.core.a = s.core.a by rw [core]
  have carry : u.flagC = s.flagC := by rw [flagC_core, flagC_core, core]
  rw [State.accumulate, a, carry, result]
  exact computed_putFlags (by rw [setReg_core, core]) z n h c

/-- An accumulator operation in its three forms (R150), from what it computes of an operand's value. -/
theorem aluForms_of_result {op : AluOp} {s : State} {value : Byte → Byte} {z n h c : Byte → Bool}
    (result : ∀ v, aluResult op s.cpu.a v s.flagC = ⟨value v, z v, n v, h v, c v⟩) :
    AluForms op s (fun t v => s.Computed t (value v) (z v) (n v) (h v) (c v)) := by
  refine ⟨fun r => ?_, fun v => ?_, ?_⟩
  · exact ⟨_, exec_alu op (.reg r) s, rfl, accumulate_computed rfl (result (s.reg r))⟩
  · exact ⟨_, exec_aluImm op v s, rfl, accumulate_computed rfl (result v)⟩
  · exact ⟨_, exec_alu op .atHL s, memRead_cycles s s.hl, memRead_undisturbed s s.hl _,
      accumulate_computed (memRead_core s s.hl) (result _)⟩

/-- The end state of an operation that reads its operand, writes the result back and then writes the flags (R159, R160, R173). -/
def State.modified (s : State) (o : Operand8) (r : Byte → Alu) : State :=
  let v := (s.readOperand o).1
  ((s.readOperand o).2.writeOperand o (r v).value).flagsOf (r v)

/-- A read, and then a write at the same address, is a write for a quiet machine. -/
theorem memRead_memWrite_wrote (s : State) (a : Addr) (v : Byte) : s.Wrote ((s.memRead a).2.memWrite a v) a v := fun quiet =>
  (sameFrame_memRead quiet a).wrote (memWrite_wrote _ a v) quiet

/-- The read of the operand at HL and its write back are at one address. -/
theorem modified_atHL (s : State) (r : Byte → Alu) :
    s.modified .atHL r = ((s.memRead s.hl).2.memWrite s.hl (r (s.memRead s.hl).1).value).flagsOf (r (s.memRead s.hl).1) := by
  have hl : (s.memRead s.hl).2.hl = s.hl := by rw [State.hl, pair_core, memRead_core, ← pair_core, ← State.hl]
  simp only [State.modified, State.readOperand, State.writeOperand, hl]

/-- An operation on a register or the byte at HL in its two forms, from what it computes of the operand's value. -/
theorem modifyForms_of_result {i : Operand8 → Instr} {s : State} {r : Byte → Alu} {value : Byte → Byte} {z n h c : Byte → Bool}
    (meaning : ∀ o, exec (i o) s = .next (s.modified o r)) (result : ∀ v, r v = ⟨value v, z v, n v, h v, c v⟩) :
    ModifyForms i s value z n h c := by
  obtain rfl : r = fun v => ⟨value v, z v, n v, h v, c v⟩ := funext result
  refine ⟨fun x => ?_, ?_⟩
  · obtain ⟨hz, hn, hh, hc⟩ := flagBits_putFlags (s.setReg x (value (s.reg x))) (z (s.reg x)) (n (s.reg x)) (h (s.reg x)) (c (s.reg x))
    exact ⟨_, meaning (.reg x), rfl, hz, hn, hh, hc, low_flags _⟩
  · generalize operand : (s.memRead s.hl).1 = v
    have written := meaning .atHL
    rw [modified_atHL, operand] at written
    obtain ⟨hz, hn, hh, hc⟩ := flagBits_putFlags ((s.memRead s.hl).2.memWrite s.hl (value v)) (z v) (n v) (h v) (c v)
    refine ⟨_, written, ?_, ((ticks_memRead s s.hl).trans (ticks_memWrite _ _ _)).cycles, memRead_memWrite_wrote s s.hl (value v),
      hz, hn, hh, hc, low_flags _⟩
    rw [flagsOf_core, memWrite_core, memRead_core]
    rfl

end Sys2Proof.Machine

/-! O29, O30 and O31: the accumulator operations (42_alu8.md R151 to R158). What is left of each is its result on numbers. -/

namespace Sys2Proof.Machine

/-- The zero check of a narrowed sum, on the number (R18). -/
theorem ofNat_beq_zero (k : Nat) : (BitVec.ofNat 8 k == 0) = decide (k % 256 = 0) := by
  rw [Bool.beq_eq_decide_eq]
  exact decide_eq_decide.2 (BitVec.toNat_inj (x := BitVec.ofNat 8 k) (y := 0)).symm

theorem addCarry_eq (a v : Byte) (c : Bool) :
    addCarry a v c = ⟨BitVec.ofNat 8 (a.toNat + v.toNat + c.toNat), decide ((a.toNat + v.toNat + c.toNat) % 256 = 0), false,
      decide (a.toNat % 16 + v.toNat % 16 + c.toNat > 0xF), decide (a.toNat + v.toNat + c.toNat > 0xFF)⟩ := by
  rw [addCarry, ofNat_beq_zero]
  rfl

/-- A difference narrowed to a byte, as a number that is not negative. -/
theorem ofInt_sub_eq (a v : Byte) (c : Bool) :
    BitVec.ofInt 8 ((a.toNat : Int) - v.toNat - c.toNat) = BitVec.ofNat 8 (a.toNat + 512 - v.toNat - c.toNat) := by
  have := c.toNat_le
  apply BitVec.eq_of_toNat_eq
  rw [BitVec.toNat_ofInt, BitVec.toNat_ofNat]
  omega

theorem subCarry_eq (a v : Byte) (c : Bool) :
    subCarry a v c = ⟨BitVec.ofNat 8 (a.toNat + 512 - v.toNat - c.toNat), decide ((a.toNat + 512 - v.toNat - c.toNat) % 256 = 0), true,
      decide (a.toNat % 16 < v.toNat % 16 + c.toNat), decide (a.toNat < v.toNat + c.toNat)⟩ := by
  rw [subCarry, ofInt_sub_eq, ofNat_beq_zero]
  rfl

/-- Without a borrow in, the result is zero where A is the operand (R153, R158). -/
theorem subCarry_false_eq (a v : Byte) :
    subCarry a v false = ⟨BitVec.ofNat 8 (a.toNat + 256 - v.toNat), decide (a.toNat = v.toNat), true,
      decide (a.toNat % 16 < v.toNat % 16), decide (a.toNat < v.toNat)⟩ := by
  have value : BitVec.ofNat 8 (a.toNat + 512 - v.toNat) = BitVec.ofNat 8 (a.toNat + 256 - v.toNat) := by
    apply BitVec.eq_of_toNat_eq
    rw [BitVec.toNat_ofNat, BitVec.toNat_ofNat]
    omega
  have zero : (a.toNat + 512 - v.toNat) % 256 = 0 ↔ a.toNat = v.toNat := by omega
  simp only [subCarry_eq, Bool.toNat_false, Nat.sub_zero, Nat.add_zero, value, zero]

theorem logic_eq (r : Byte) (h : Bool) : logic r h = ⟨r, decide (r = 0), false, h, false⟩ := by
  rw [logic, Bool.beq_eq_decide_eq]

/-- Settles O29: ADD is the sum without a carry in, ADC the sum with C. -/
theorem addAdc : Obligations.AddAdc := by
  intro s a c
  have carry : c = s.flagC.toNat := (Bool.cond_eq_ite s.flagC 1 0).symm
  rw [carry]
  exact ⟨aluForms_of_result fun v => addCarry_eq s.cpu.a v false, aluForms_of_result fun v => addCarry_eq s.cpu.a v s.flagC⟩

/-- Settles O30: SUB and CP are the difference without a borrow in, of which CP keeps the flags, and SBC the difference with C. -/
theorem subSbcCp : Obligations.SubSbcCp := by
  intro s a c
  have carry : c = s.flagC.toNat := (Bool.cond_eq_ite s.flagC 1 0).symm
  rw [carry]
  exact ⟨aluForms_of_result fun v => subCarry_false_eq s.cpu.a v, aluForms_of_result fun v => subCarry_eq s.cpu.a v s.flagC,
    aluForms_of_result fun v => congrArg (fun r : Alu => { r with value := s.cpu.a }) (subCarry_false_eq s.cpu.a v)⟩

/-- Settles O31: each logic operation is `logic` of its bitwise result. -/
theorem logicOps : Obligations.LogicOps := fun s =>
  ⟨aluForms_of_result fun v => logic_eq (s.cpu.a &&& v) true, aluForms_of_result fun v => logic_eq (s.cpu.a ^^^ v) false,
    aluForms_of_result fun v => logic_eq (s.cpu.a ||| v) false⟩

end Sys2Proof.Machine

/-! O32: INC and DEC of an 8-bit operand (42_alu8.md R159, R160). -/

namespace Sys2Proof.Machine

theorem incResult_eq (v : Byte) (c : Bool) :
    incResult v c = ⟨v + 1, decide (v = 0xFF), false, decide (v.toNat % 16 = 15), c⟩ := by
  have zero : v + 1 = 0 ↔ v = 0xFF := by bv_omega
  simp only [incResult, low4, Bool.beq_eq_decide_eq, zero]

theorem decResult_eq (v : Byte) (c : Bool) :
    decResult v c = ⟨v - 1, decide (v = 0x01), true, decide (v.toNat % 16 = 0), c⟩ := by
  have zero : v - 1 = 0 ↔ v = 0x01 := by bv_omega
  simp only [decResult, low4, Bool.beq_eq_decide_eq, zero]

/-- Settles O32: both read the operand, write the result back and then the flags. -/
theorem incDec8 : Obligations.IncDec8 := fun s =>
  ⟨modifyForms_of_result (r := (incResult · s.flagC)) (fun o => exec_inc o s) fun v => incResult_eq v s.flagC,
    modifyForms_of_result (r := (decResult · s.flagC)) (fun o => exec_dec o s) fun v => decResult_eq v s.flagC⟩

end Sys2Proof.Machine

/-! O33: DAA, CPL, SCF and CCF (42_alu8.md R161 to R164). -/

namespace Sys2Proof.Machine

/-- The adjustment of DAA (R161) as a number: its two parts have no bit in common. -/
def daaAdjustNumber (a : Nat) (n h c : Bool) : Nat :=
  (if h || (!n && decide (a % 16 > 9)) then 6 else 0) + (if c || (!n && decide (a > 0x99)) then 0x60 else 0)

theorem daaAdjust_eq (a : Byte) (n h c : Bool) : daaAdjust a n h c = BitVec.ofNat 8 (daaAdjustNumber a.toNat n h c) := by
  have parts : ∀ low high : Bool, (if low then 0x06 else 0) ||| (if high then 0x60 else 0) =
      BitVec.ofNat 8 ((if low then 6 else 0) + (if high then 0x60 else 0)) := by decide
  exact parts _ _

theorem daaAdjustNumber_le (a : Nat) (n h c : Bool) : daaAdjustNumber a n h c ≤ 6 + 0x60 :=
  Nat.add_le_add (by split <;> decide) (by split <;> decide)

theorem daaNumber_fst (a : Nat) (n h c : Bool) :
    (daaNumber a n h c).1 =
      if n then (a + 256 - daaAdjustNumber a n h c) % 256 else (a + daaAdjustNumber a n h c) % 256 := by
  cases n <;> rfl

theorem daaNumber_fst_lt (a : Nat) (n h c : Bool) : (daaNumber a n h c).1 < 256 := by
  cases n <;> exact Nat.mod_lt _ (by decide)

/-- DAA on bytes is DAA on numbers (R161). -/
theorem daaResult_eq (a : Byte) (n h c : Bool) :
    daaResult a n h c = ⟨BitVec.ofNat 8 (daaNumber a.toNat n h c).1, decide ((daaNumber a.toNat n h c).1 = 0), n, false,
      (daaNumber a.toNat n h c).2⟩ := by
  have value : (if n then a - daaAdjust a n h c else a + daaAdjust a n h c) = BitVec.ofNat 8 (daaNumber a.toNat n h c).1 := by
    have bound := daaAdjustNumber_le a.toNat n h c
    rw [daaAdjust_eq, daaNumber_fst]
    generalize daaAdjustNumber a.toNat n h c = k at bound ⊢
    cases n with
    | true =>
      show a - BitVec.ofNat 8 k = BitVec.ofNat 8 ((a.toNat + 256 - k) % 256)
      bv_omega
    | false =>
      show a + BitVec.ofNat 8 k = BitVec.ofNat 8 ((a.toNat + k) % 256)
      bv_omega
  have carry : daaHigh a n c = (daaNumber a.toNat n h c).2 := by cases n <;> simp [daaHigh, daaNumber]
  rw [daaResult, value, carry, ofNat_beq_zero, Nat.mod_eq_of_lt (daaNumber_fst_lt a.toNat n h c)]

theorem complement_eq (a : Byte) : ~~~a = BitVec.ofNat 8 (255 - a.toNat) := by bv_omega

theorem decimalAdjust_computed (s : State) :
    let d := daaNumber s.cpu.a.toNat s.flagN s.flagH s.flagC
    s.Computed s.decimalAdjust (BitVec.ofNat 8 d.1) (decide (d.1 = 0)) s.flagN false d.2 := by
  rw [State.decimalAdjust, daaResult_eq]
  exact computed_putFlags (setReg_core s .a _) _ _ _ _

/-- Settles O33: each writes the four flags, DAA and CPL after A. -/
theorem accumulatorFlags : Obligations.AccumulatorFlags := by
  intro s d
  refine ⟨⟨_, rfl, rfl, decimalAdjust_computed s⟩, ⟨_, rfl, rfl, ?_⟩, ⟨_, rfl, rfl, computed_putFlags rfl _ _ _ _⟩,
    ⟨_, rfl, rfl, computed_putFlags rfl _ _ _ _⟩⟩
  exact computed_putFlags (by rw [setReg_core, complement_eq]) _ _ _ _

end Sys2Proof.Machine

/-! O34: decimal arithmetic (42_alu8.md R151, R153, R161). On numbers, DAA after a binary sum or difference of two BCD bytes gives the BCD
byte of the decimal one; the instructions are those numbers by O29, O30 and O33. -/

namespace Sys2Proof.Machine

/-- The number whose two hexadecimal digits are the decimal digits of a number below 100. -/
def bcdNumber (x : Nat) : Nat := x / 10 * 16 + x % 10

theorem bcdNumber_lt {x : Nat} (small : x < 100) : bcdNumber x < 256 := by
  unfold bcdNumber; omega

theorem toNat_bcd {x : Nat} (small : x < 100) : (bcd x).toNat = bcdNumber x := Nat.mod_eq_of_lt (bcdNumber_lt small)

theorem bcdNumber_eq_zero_iff (x : Nat) : bcdNumber x = 0 ↔ x = 0 := by
  unfold bcdNumber; omega

section
variable {x y : Nat} (hx : x < 100) (hy : y < 100)
include hx hy

/-- DAA after an addition (R151, R161): it adjusts a digit where the decimal sum carries out of it. -/
theorem daaNumber_add :
    daaNumber ((bcdNumber x + bcdNumber y) % 256) false (decide (bcdNumber x % 16 + bcdNumber y % 16 > 0xF))
        (decide (bcdNumber x + bcdNumber y > 0xFF)) =
      (bcdNumber ((x + y) % 100), decide (100 ≤ x + y)) := by
  have carries : 0x99 < bcdNumber x + bcdNumber y ↔ 100 ≤ x + y := by
    unfold bcdNumber; omega
  have tens : bcdNumber x + bcdNumber y > 0xFF ∨ (bcdNumber x + bcdNumber y) % 256 > 0x99 ↔ 100 ≤ x + y := by
    rw [← carries]; omega
  have units : bcdNumber x % 16 + bcdNumber y % 16 > 0xF ∨ (bcdNumber x + bcdNumber y) % 256 % 16 > 9 ↔ 10 ≤ x % 10 + y % 10 := by
    unfold bcdNumber; omega
  simp only [daaNumber, Bool.false_eq_true, if_false, Bool.not_false, Bool.true_and, ← Bool.decide_or, decide_eq_true_eq, units, tens]
  unfold bcdNumber
  split_ifs <;> congr 1 <;> omega

/-- DAA after a subtraction (R153, R161): it adjusts a digit where the decimal difference borrows. -/
theorem daaNumber_sub :
    daaNumber ((bcdNumber x + 256 - bcdNumber y) % 256) true (decide (bcdNumber x % 16 < bcdNumber y % 16))
        (decide (bcdNumber x < bcdNumber y)) =
      (bcdNumber ((x + 100 - y) % 100), decide (x < y)) := by
  have units : bcdNumber x % 16 < bcdNumber y % 16 ↔ x % 10 < y % 10 := by
    unfold bcdNumber; omega
  have tens : bcdNumber x < bcdNumber y ↔ x < y := by
    unfold bcdNumber; omega
  simp only [daaNumber, if_true, Bool.not_true, Bool.false_and, Bool.or_false, decide_eq_true_eq, units, tens]
  unfold bcdNumber
  split_ifs <;> congr 1 <;> omega

end

/-- DAA in a state whose A, N, H and C are the numbers of a BCD result `r` with carry `c`. -/
theorem decimalAdjust_bcd {t : State} {r : Nat} {c : Bool}
    (adjusts : daaNumber t.cpu.a.toNat t.flagN t.flagH t.flagC = (bcdNumber r, c)) :
    t.decimalAdjust.cpu.a = bcd r ∧ t.decimalAdjust.flagC = c ∧ t.decimalAdjust.flagZ = decide (r = 0) := by
  have computed := decimalAdjust_computed t
  simp only [adjusts, bcdNumber_eq_zero_iff] at computed
  obtain ⟨ha, hz, -, -, hc, -⟩ := computed
  exact ⟨ha, hc, hz⟩

/-- Settles O34: O29 and O30 give the numbers that DAA adjusts. -/
theorem decimalArithmetic : Obligations.DecimalArithmetic := by
  intro s x y hx hy a b
  obtain ⟨⟨add, -⟩, -⟩ := addAdc s
  obtain ⟨⟨sub, -⟩, -⟩ := subSbcCp s
  have left : s.cpu.a.toNat = bcdNumber x := (congrArg BitVec.toNat a).trans (toNat_bcd hx)
  have right : (s.reg .b).toNat = bcdNumber y := (congrArg BitVec.toNat b).trans (toNat_bcd hy)
  obtain ⟨t, adds, -, ta, -, tn, th, tc, -⟩ := add .b
  obtain ⟨u, subtracts, -, ua, -, un, uh, uc, -⟩ := sub .b
  refine ⟨⟨t, _, adds, rfl, decimalAdjust_bcd ?_⟩, ⟨u, _, subtracts, rfl, ?_⟩⟩
  · rw [ta, tn, th, tc, BitVec.toNat_ofNat, left, right]
    exact daaNumber_add hx hy
  · have zero : (x + 100 - y) % 100 = 0 ↔ x = y := by omega
    rw [← decide_eq_decide.2 zero]
    refine decimalAdjust_bcd ?_
    rw [ua, un, uh, uc, BitVec.toNat_ofNat, left, right]
    exact daaNumber_sub hx hy

end Sys2Proof.Machine

/-! O35: the 16-bit arithmetic on register pairs (43_alu16.md R165 to R167). Each instruction is an internal cycle and the write of a pair. -/

namespace Sys2Proof.Machine

/-- What INC rr and DEC rr leave (R166, R167): an internal cycle and the write of the pair. -/
theorem internal_setPair_leaves (s : State) (p : Pair) (v : Addr) :
    (s.internal.setPair p v).core = s.core.setPair p v ∧ (s.internal.setPair p v).cycles = s.cycles + 4 ∧
      s.Undisturbed (s.internal.setPair p v) :=
  ⟨by rw [setPair_core, internal_core], (ticks_internal s).cycles, undisturbed_of_frame sameFrame_internal _⟩

/-- What ADD HL,rr changes of the CPU (R165). -/
theorem addHl_core (s : State) (p : Pair) :
    (s.addHl p).core = (s.core.setPair .hl (s.hl + s.pair p)).setFlags
      (mkFlags s.flagZ false (addHLHalf s.hl (s.pair p)) (addHLCarry s.hl (s.pair p))) := by
  rw [State.addHl, putFlags_core, setHl_core, internal_core]

/-- Settles O35: HL takes the sum and F its flags, which are Z as before and the carries of R165; INC and DEC write the pair alone. -/
theorem arith16 : Obligations.Arith16 := by
  intro s p hl v
  have value : v = s.pair p := by cases p <;> rfl
  rw [value]
  refine ⟨?_, ⟨s.incPair p, exec_incPair p s, internal_setPair_leaves s p _⟩,
    ⟨s.decPair p, exec_decPair p s, internal_setPair_leaves s p _⟩⟩
  have sum : (s.addHl p).cpu.h ++ (s.addHl p).cpu.l = s.hl + s.pair p := hiByte_append_loByte _
  obtain ⟨z, n, h, c⟩ := flagBits_putFlags (s.internal.setHl (s.hl + s.pair p)) s.flagZ false
    (addHLHalf s.hl (s.pair p)) (addHLCarry s.hl (s.pair p))
  exact ⟨s.addHl p, exec_addHL p s, (congrArg BitVec.toNat sum).trans (BitVec.toNat_add _ _), by rw [addHl_core]; rfl, z, n, h, c,
    (ticks_internal s).cycles, undisturbed_of_frame sameFrame_internal _⟩

end Sys2Proof.Machine

/-! O36, O37, O38 and O39: the rotates, the shifts and the bit operations (44_rotate_shift_bit.md R169 to R184). A rotate or shift is a byte
with its low bits 0, or-ed with a byte below them, so on numbers it is a sum; what is left is each operation's effect on its operand. -/

namespace Sys2Proof.Machine

/-- A bit of a byte, on the number (R17). -/
theorem bit_eq_decide (v : Byte) (i : Nat) : bit v i = decide (v.toNat / 2 ^ i % 2 = 1) := Nat.testBit_eq_decide_div_mod_eq

theorem bit_seven (v : Byte) : bit v 7 = decide (v.toNat / 128 = 1) := by
  have high : v.toNat / 2 ^ 7 % 2 = v.toNat / 128 := by omega
  rw [bit_eq_decide, high]

theorem toNat_bitAt {i : Nat} (small : i < 8) (b : Bool) : (bitAt i b).toNat = b.toNat * 2 ^ i := by
  cases b with
  | false => simp [bitAt]
  | true =>
    have fits : 2 ^ i < 2 ^ 8 := Nat.pow_lt_pow_right (by decide) small
    simpa [bitAt, Nat.shiftLeft_eq] using fits

theorem toNat_shiftLeft (v : Byte) (k : Nat) : (v <<< k).toNat = v.toNat * 2 ^ k % 256 := by
  rw [BitVec.toNat_shiftLeft, Nat.shiftLeft_eq]

theorem toNat_shiftRight (v : Byte) (k : Nat) : (v >>> k).toNat = v.toNat / 2 ^ k := by
  rw [BitVec.toNat_ushiftRight, Nat.shiftRight_eq_div_pow]

/-- Bit 7 of a byte in its place (R179). -/
theorem toNat_and_signBit (v : Byte) : (v &&& 0x80).toNat = v.toNat / 128 * 128 := by
  have sign : (v &&& 0x80).toNat = v.toNat / 2 ^ 7 % 2 * 2 ^ 7 := by
    rw [← Nat.toNat_testBit]
    exact Nat.and_two_pow v.toNat 7
  omega

/-- Two bytes that meet at bit `k` are or-ed to their sum. -/
theorem toNat_or_of_dvd {high low : Byte} (k : Nat) (above : 2 ^ k ∣ high.toNat) (below : low.toNat < 2 ^ k) :
    (high ||| low).toNat = high.toNat + low.toNat := by
  obtain ⟨n, multiple⟩ := above
  rw [BitVec.toNat_or, multiple, Nat.two_pow_add_eq_or_of_lt below]

/-- The result of a rotate or shift, on numbers (R174 to R181). -/
theorem toNat_shiftValue (op : ShiftOp) (v : Byte) (c : Bool) :
    (shiftValue op v c).1.toNat = shiftNumber op v.toNat c.toNat := by
  have carry := c.toNat_le
  have left := toNat_shiftLeft v
  have right := toNat_shiftRight v
  cases op with
  | rlc =>
    show (v <<< 1 ||| v >>> 7).toNat = v.toNat * 2 % 256 + v.toNat / 128
    rw [toNat_or_of_dvd 1 (by rw [left]; omega) (by rw [right]; omega), left, right]
    omega
  | rrc =>
    show (v >>> 1 ||| v <<< 7).toNat = v.toNat / 2 + v.toNat % 2 * 128
    rw [BitVec.or_comm, toNat_or_of_dvd 7 (by rw [left]; omega) (by rw [right]; omega), left, right]
    omega
  | rl =>
    have low := toNat_bitAt (i := 0) (by decide) c
    show (v <<< 1 ||| bitAt 0 c).toNat = v.toNat * 2 % 256 + c.toNat
    rw [toNat_or_of_dvd 1 (by rw [left]; omega) (by rw [low]; omega), left, low]
    omega
  | rr =>
    have high := toNat_bitAt (i := 7) (by decide) c
    show (v >>> 1 ||| bitAt 7 c).toNat = v.toNat / 2 + c.toNat * 128
    rw [BitVec.or_comm, toNat_or_of_dvd 7 (by rw [high]; omega) (by rw [right]; omega), high, right]
    omega
  | sla => exact left 1
  | sra =>
    have high := toNat_and_signBit v
    show (v >>> 1 ||| v &&& 0x80).toNat = v.toNat / 2 + v.toNat / 128 * 128
    rw [BitVec.or_comm, toNat_or_of_dvd 7 (by rw [high]; omega) (by rw [right]; omega), high, right]
    omega
  | swap =>
    show (v <<< 4 ||| v >>> 4).toNat = v.toNat % 16 * 16 + v.toNat / 16
    rw [toNat_or_of_dvd 4 (by rw [left]; omega) (by rw [right]; omega), left, right]
    omega
  | srl => exact right 1

/-- The bit a rotate or shift moves into C (R174 to R181). -/
theorem shiftValue_carry (op : ShiftOp) (v : Byte) (c : Bool) :
    (shiftValue op v c).2 = decide (shiftCarry op v.toNat = 1) := by
  cases op with
  | rlc | rl | sla => exact bit_seven v
  | rrc | rr | sra | srl => exact bit_zero v
  | swap => rfl

theorem shiftResult_eq (op : ShiftOp) (v : Byte) (c : Bool) :
    shiftResult op v c = ⟨BitVec.ofNat 8 (shiftNumber op v.toNat c.toNat), decide (shiftNumber op v.toNat c.toNat = 0), false, false,
      decide (shiftCarry op v.toNat = 1)⟩ := by
  have zero : (shiftValue op v c).1 = 0 ↔ (shiftValue op v c).1.toNat = 0 := BitVec.toNat_inj.symm
  rw [shiftResult, shiftValue_carry, Bool.beq_eq_decide_eq, decide_eq_decide.2 zero, ← toNat_shiftValue, BitVec.ofNat_toNat,
    BitVec.setWidth_eq]

theorem rotateA_computed (s : State) (op : ShiftOp) :
    s.Computed (s.rotateA op) (BitVec.ofNat 8 (shiftNumber op s.cpu.a.toNat s.flagC.toNat)) false false false
      (decide (shiftCarry op s.cpu.a.toNat = 1)) := by
  rw [State.rotateA, rotateAResult, shiftResult_eq]
  exact computed_putFlags (setReg_core s .a _) _ _ _ _

/-- Settles O36: each is the CB rotate of A with Z cleared. -/
theorem rotateA : Obligations.RotateA := by
  intro s a c
  have carry : c = s.flagC.toNat := (Bool.cond_eq_ite s.flagC 1 0).symm
  rw [carry]
  exact ⟨⟨_, rfl, rfl, rotateA_computed s .rlc⟩, ⟨_, rfl, rfl, rotateA_computed s .rrc⟩, ⟨_, rfl, rfl, rotateA_computed s .rl⟩,
    ⟨_, rfl, rfl, rotateA_computed s .rr⟩⟩

/-- Settles O37: each reads its operand, writes the result back and then the flags. -/
theorem shiftCb : Obligations.ShiftCb := by
  intro s op c
  have carry : c = s.flagC.toNat := (Bool.cond_eq_ite s.flagC 1 0).symm
  rw [carry]
  exact modifyForms_of_result (r := (shiftResult op · s.flagC)) (fun o => exec_shift op o s) fun v => shiftResult_eq op v s.flagC

theorem memRead_hl (s : State) (a : Addr) : (s.memRead a).2.hl = s.hl := by
  rw [State.hl, pair_core, memRead_core, ← pair_core, ← State.hl]

/-- An operation that reads its operand and writes the result back, with no flag, in its two forms (R183, R184). -/
theorem bitWriteForms_of_meaning {i : Operand8 → Instr} {s : State} {res : Byte → Byte}
    (meaning : ∀ o, exec (i o) s = .next ((s.readOperand o).2.writeOperand o (res (s.readOperand o).1))) :
    BitWriteForms i s res := by
  refine ⟨fun r => meaning (.reg r), ?_⟩
  have written : exec (i .atHL) s = .next ((s.memRead s.hl).2.memWrite (s.memRead s.hl).2.hl (res (s.memRead s.hl).1)) := meaning .atHL
  rw [memRead_hl] at written
  exact ⟨_, written, by rw [memWrite_core, memRead_core], ((ticks_memRead s s.hl).trans (ticks_memWrite _ _ _)).cycles,
    memRead_memWrite_wrote s s.hl _⟩

/-- Settles O39: RES and SET write back the operand with one bit cleared or set. -/
theorem resSet : Obligations.ResSet := fun s b =>
  ⟨bitWriteForms_of_meaning fun o => exec_res b o s, bitWriteForms_of_meaning fun o => exec_set b o s⟩

theorem bitResult_eq (b : Nat) (v : Byte) (c : Bool) : bitResult b v c = ⟨v, decide (v.toNat / 2 ^ b % 2 = 0), false, true, c⟩ := by
  have clear : ¬ v.toNat / 2 ^ b % 2 = 1 ↔ v.toNat / 2 ^ b % 2 = 0 := Nat.mod_two_ne_one
  rw [bitResult, bit_eq_decide, ← decide_not, decide_eq_decide.2 clear]

/-- The flags of BIT (R182), written in any state with the registers of `s`. -/
theorem bitResult_flagged {s u : State} (core : u.core = s.core) (b : Nat) (v : Byte) :
    s.Flagged (u.flagsOf (bitResult b v s.flagC)) (decide (v.toNat / 2 ^ b % 2 = 0)) false true s.flagC := by
  rw [bitResult_eq]
  exact computed_putFlags core _ _ _ _

/-- Settles O38: BIT reads its operand and then writes only the flags. -/
theorem bitTest : Obligations.BitTest := fun s b =>
  ⟨fun r => ⟨_, exec_bit b (.reg r) s, rfl, bitResult_flagged rfl (index3 b) (s.reg r)⟩,
    ⟨_, exec_bit b .atHL s, memRead_cycles s s.hl, memRead_undisturbed s s.hl _,
      bitResult_flagged (memRead_core s s.hl) (index3 b) (s.memRead s.hl).1⟩⟩

end Sys2Proof.Machine

/-! O40, O41 and O42: jumps, calls and returns (45_control.md R186 to R196). A conditional form is its unconditional one when the condition
holds, so each meaning is stated once and used for both. -/

namespace Sys2Proof.Machine

/-- An operation that disturbs nothing on a quiet machine. -/
theorem undisturbed_of_sameFrame {s t : State} (frame : s.Quiet → SameFrame s t) : s.Undisturbed t := undisturbed_of_frame frame t.cpu

/-! Jumps. -/

/-- A bit of F that the mask of the flags keeps (R34). -/
theorem bit_flags (s : State) {i : Nat} (kept : bit 0xF0 i = true) : bit s.flags i = bit s.cpu.f i :=
  calc bit s.flags i = (bit s.cpu.f i && bit 0xF0 i) := BitVec.getLsbD_and
    _ = bit s.cpu.f i := by rw [kept, Bool.and_true]

theorem flagZ_eq_bit (s : State) : s.flagZ = bit s.cpu.f 7 := bit_flags s rfl

theorem flagC_eq_bit (s : State) : s.flagC = bit s.cpu.f 4 := bit_flags s rfl

/-- The target of JR: the signed sum modulo 2^16 (R18, R189). -/
theorem add_sext16 (a : Addr) (e : Byte) : a + sext16 e = BitVec.ofInt 16 (a.toNat + e.toInt) := by
  rw [BitVec.ofInt_add, BitVec.ofInt_natCast, BitVec.ofNat_toNat, BitVec.setWidth_eq]; rfl

/-- What a jump leaves (R186). -/
theorem jump_leaves (s : State) (target : Addr) :
    (s.jump target).core = { s.core with pc := target } ∧ (s.jump target).cycles = s.cycles + 4 ∧ s.Undisturbed (s.jump target) :=
  ⟨jump_core s target, (ticks_jump s target).cycles, undisturbed_of_sameFrame (sameFrame_jump · target)⟩

/-- What a relative jump leaves (R189). -/
theorem jumpBy_leaves (s : State) (e : Byte) :
    (s.jumpBy e).core = { s.core with pc := BitVec.ofInt 16 (s.cpu.pc.toNat + e.toInt) } ∧
      (s.jumpBy e).cycles = s.cycles + 4 ∧ s.Undisturbed (s.jumpBy e) := by
  rw [← add_sext16]
  exact jump_leaves s _

/-- Settles O40: a jump is an internal cycle and a write of PC. -/
theorem jumps : Obligations.Jumps := by
  intro s
  refine ⟨⟨flagZ_eq_bit s, congrArg not (flagZ_eq_bit s), flagC_eq_bit s, congrArg not (flagC_eq_bit s)⟩,
    fun nn => ⟨_, rfl, jump_leaves s nn⟩, fun cc nn taken => ?_, fun cc nn untaken => ?_, rfl, fun e => ⟨_, rfl, jumpBy_leaves s e⟩,
    fun cc e taken => ?_, fun cc e untaken => ?_⟩
  · exact ⟨_, by rw [exec_jpCond, if_pos taken], jump_leaves s nn⟩
  · simp [exec_jpCond, untaken]
  · exact ⟨_, by rw [exec_jrCond, if_pos taken], jumpBy_leaves s e⟩
  · simp [exec_jrCond, untaken]

/-! Calls. -/

/-- A call leaves the two stores of its push: the jump that follows writes only PC (R191). -/
theorem call_wroteTwo (s : State) (target : Addr) :
    s.WroteTwo (s.internal.pushByte (hiByte s.cpu.pc)) (s.call target) (s.cpu.sp - 1) (s.cpu.sp - 2)
      (hiByte s.cpu.pc) (loByte s.cpu.pc) := by
  have sp : s.internal.cpu.sp = s.cpu.sp := by rw [sp_core, internal_core, sp_core]
  have push := push_wroteTwo s.internal (hiByte s.cpu.pc) (loByte s.cpu.pc)
  rw [sp] at push
  exact wroteTwo_after (fun quiet => (sameFrame_internal quiet).wroteTwo push quiet) fun _ _ _ => .cpu _ _

/-- What a call leaves (R191). -/
theorem call_leaves (s : State) (target : Addr) :
    (s.call target).core = { s.core with sp := s.cpu.sp - 2, pc := target } ∧ (s.call target).cycles = s.cycles + 12 ∧
      s.WroteTwo (s.internal.pushByte (hiByte s.cpu.pc)) (s.call target) (s.cpu.sp - 1) (s.cpu.sp - 2)
        (hiByte s.cpu.pc) (loByte s.cpu.pc) :=
  ⟨call_core s target, (ticks_call s target).cycles, call_wroteTwo s target⟩

/-- Settles O41: RST is a call of its vector. -/
theorem callRst : Obligations.CallRst := by
  intro s
  refine ⟨fun nn => ⟨_, rfl, call_leaves s nn⟩, fun cc nn taken => ?_, fun cc nn untaken => ?_,
    fun k => ⟨_, exec_rst k s, call_leaves s (rstVector k)⟩⟩
  · exact ⟨_, by rw [exec_callCond, if_pos taken], call_leaves s nn⟩
  · simp [exec_callCond, untaken]

/-! Returns. -/

/-- What a return leaves (R193). -/
theorem ret_leaves (s : State) :
    s.ret.core = { s.core with sp := s.cpu.sp + 2, pc := s.popHi ++ s.popLo } ∧ s.ret.cycles = s.cycles + 12 ∧ s.Undisturbed s.ret :=
  ⟨by rw [ret_core, popWord_fst]; rfl, (ticks_ret s).cycles, undisturbed_of_sameFrame sameFrame_ret⟩

/-- The condition of RET cc is evaluated after an internal cycle, which keeps the flags (R194). -/
theorem retCond_eq (s : State) (cc : Cond) : s.retCond cc = if s.cond cc then s.internal.ret else s.internal := by
  rw [State.retCond, cond_core (internal_core s)]

/-- What a taken RET cc leaves: the pop reads after the internal cycle (R194). -/
theorem internal_ret_leaves (s : State) :
    s.internal.ret.core = { s.core with sp := s.cpu.sp + 2, pc := s.internal.popHi ++ s.internal.popLo } ∧
      s.internal.ret.cycles = s.cycles + 16 ∧ s.Undisturbed s.internal.ret := by
  obtain ⟨core, -, -⟩ := ret_leaves s.internal
  rw [sp_core, internal_core] at core
  exact ⟨core, ((ticks_internal s).trans (ticks_ret _)).cycles, undisturbed_of_sameFrame fun quiet =>
    have first := sameFrame_internal quiet
    first.trans (sameFrame_ret (first.quiet quiet))⟩

/-- Settles O42: RET cc is an internal cycle and, if taken, RET; RETI is RET and a write of the interrupt latches. -/
theorem returns : Obligations.Returns := by
  intro s
  refine ⟨popsMemory s, ⟨_, rfl, ret_leaves s⟩, fun cc taken => ?_, fun cc untaken => ?_, ⟨_, rfl, ?_⟩⟩
  · exact ⟨_, by rw [exec_retCond, retCond_eq, if_pos taken], internal_ret_leaves s⟩
  · exact ⟨s.internal, by simp [exec_retCond, retCond_eq, untaken], internal_core s, (ticks_internal s).cycles,
      undisturbed_of_sameFrame sameFrame_internal⟩
  · exact ⟨by rw [interruptReturn_core, popWord_fst]; rfl, (ticks_interruptReturn s).cycles, undisturbed_of_frame sameFrame_ret _⟩

end Sys2Proof.Machine

/-! O14, O15, O16 and O17: the steps of a CPU that a latch or a stall holds (46_system.md R201 to R208). Each is one branch of the CPU
step, and each branch is an M-cycle of the devices. -/

namespace Sys2Proof.Machine

/-! The branches of a step that runs no instruction at once (30_encoding.md R119). -/

section
variable {s : State} (loaded : s.loaded = true) (unmarked : s.host.refusedMark = false) (behave : s.HooksBehave)
include loaded unmarked behave

theorem step_of_lockedUp (locked : s.cpu.lockedUp = true) : step s = .next s.internal := by
  rw [step_behaved loaded unmarked behave, State.cpuStep, if_pos locked]

variable (unlocked : s.cpu.lockedUp = false)
include unlocked

theorem step_of_stall (stall : s.cpu.stallCount ≠ 0) : step s = .next s.stallCycle := by
  rw [step_behaved loaded unmarked behave, State.cpuStep, if_neg (by simp [unlocked]), if_pos stall]

variable (noStall : s.cpu.stallCount = 0)
include noStall

theorem step_of_stopped (stopped : s.cpu.stopped = true) : step s = .next s.stopCycle := by
  rw [step_behaved loaded unmarked behave]
  simp [State.cpuStep, unlocked, noStall, stopped]

/-- A halted CPU waits, or wakes and is at an instruction boundary in the same step (R201, R203). -/
theorem step_of_halted (running : s.cpu.stopped = false) (halted : s.cpu.halted = true) :
    step s = if s.pendingByte = 0 then .next s.internal else s.haltWake.atBoundary := by
  rw [step_behaved loaded unmarked behave]
  simp [State.cpuStep, unlocked, noStall, running, halted, pending_byte]

end

/-! The system counter in an M-cycle (60_exceptions.md R217, R259). -/

/-- A change of the counter or of TAC sets them, and of the rest of the timer touches at most TIMA and the overflow latch (R221). -/
theorem change_eq (t : Timer) (n : BitVec 16) (tac : BitVec 3) :
    t.change n tac =
      { t with sysCounter := n, tac := tac, tima := (t.change n tac).tima, overflow := (t.change n tac).overflow } := by
  unfold Timer.change
  dsimp only
  split <;> rfl

theorem endCycle_sysCounter (t : Timer) (counting : Bool) :
    (t.endCycle counting).sysCounter = if counting then t.sysCounter + 4 else t.sysCounter := by
  cases counting with
  | false => rfl
  | true => exact congrArg Timer.sysCounter (change_eq t _ _)

/-- When the host makes no calls from hooks, the counter advances by 4 in an M-cycle, but not in stop mode. -/
theorem deviceCycle_sysCounter {s : State} (noReplies : s.host.replies = []) (counting : Bool) :
    (s.deviceCycle counting).timer.sysCounter = if counting then s.timer.sysCounter + 4 else s.timer.sysCounter :=
  (congrArg Timer.sysCounter (units_deviceCycle noReplies counting).timer).trans (endCycle_sysCounter s.timer counting)

/-! Lockup. -/

/-- A run goes on from what its first step answers. -/
theorem run_succ_of_step {M : Host.Core} {s u : M.State} (answers : M.step s = .next u) (n : Nat) :
    M.run (n + 1) s = M.run n u := by
  rw [Host.Core.run, answers]

/-- Settles O14, by induction on the number of steps: each is an `Internal()`, which leaves the CPU locked up, the cartridge loaded, the
mark 0 and the host without replies. -/
theorem lockedForever : Obligations.LockedForever := by
  intro n
  induction n with
  | zero => exact fun s _ _ _ _ => ⟨s, rfl, rfl, rfl⟩
  | succ n ih =>
    intro s loaded unmarked noReplies locked
    have behave := behave_of_no_replies noReplies
    have fixed := fixed_internal s
    have stillLocked : s.internal.core.lockedUp = true := by rw [internal_core]; exact locked
    obtain ⟨t, runs, core, cycles⟩ := ih s.internal (fixed.loaded.trans loaded) ((fixed.behave behave).2.trans unmarked)
      (fixed.host noReplies).1 stillLocked
    have time := (ticks_internal s).cycles
    exact ⟨t, (run_succ_of_step (step_of_lockedUp loaded unmarked behave locked) n).trans runs, core.trans (internal_core s),
      by omega⟩

/-! Stalls. -/

/-- Settles O15: the step is `stallCycle`, the device phase of an M-cycle and a decrement of stallCount. -/
theorem stallStep : Obligations.StallStep := by
  intro s loaded unmarked behave unlocked stall
  refine ⟨s.stallCycle, step_of_stall loaded unmarked behave unlocked stall, rfl, stallCycle_core s, (ticks_stallCycle s).cycles,
    fun running => ?_, fun quiet => ?_⟩
  · rw [running]; rfl
  · have frame := sameFrame_deviceCycle quiet (!s.cpu.stopped)
    have count : s.stallCycle.cpu.stallCount = s.cpu.stallCount - 1 :=
      congrArg (fun c : Cpu => c.stallCount - 1) (deviceCycle_cpu quiet _)
    have counter := deviceCycle_sysCounter quiet.1 (!s.cpu.stopped)
    refine ⟨count, frame.memory, frame.control, counter.trans ?_⟩
    cases s.cpu.stopped <;> rfl

/-! HALT. -/

theorem sameFrame_haltWake {s : State} (quiet : s.Quiet) : SameFrame s s.haltWake :=
  have wake := SameFrame.cpu s { s.cpu with halted := false }
  wake.trans (sameFrame_internal (wake.quiet quiet))

/-- Settles O16: the step is an `Internal()`, or `haltWake` and what follows it. -/
theorem haltedStep : Obligations.HaltedStep := by
  intro s loaded unmarked behave unlocked noStall running halted
  have answers := step_of_halted loaded unmarked behave unlocked noStall running halted
  refine ⟨fun noRequest => ?_, fun request => ?_⟩
  · rw [if_pos noRequest] at answers
    exact ⟨s.internal, answers, internal_core s, (ticks_internal s).cycles, undisturbed_of_sameFrame sameFrame_internal⟩
  · rw [if_neg request] at answers
    exact ⟨s.haltWake, answers, haltWake_core s, (ticks_haltWake s).cycles, undisturbed_of_sameFrame sameFrame_haltWake⟩

/-! Stop mode. -/

/-- No line is low just when no button of a selected group is pressed (60_exceptions.md R224, R225). -/
theorem joypadLines_eq_none_iff (select : BitVec 2) (mask : Byte) :
    joypadLines select mask = 0xF ↔
      (if select.getLsbD 1 then 0 else mask.toNat % 16) = 0 ∧ (if select.getLsbD 0 then 0 else mask.toNat / 16) = 0 := by
  have complement : ∀ x y : BitVec 4, ~~~(x ||| y) = 0xF ↔ x = 0 ∧ y = 0 := by decide
  have low : field4 mask = 0 ↔ mask.toNat % 16 = 0 := by simp [field4, ← BitVec.toNat_inj]
  have high : highNibble mask = 0 ↔ mask.toNat / 16 = 0 := by
    have fits : mask.toNat / 2 ^ 4 < 2 ^ 4 := by have := mask.isLt; omega
    rw [← BitVec.toNat_inj, highNibble, BitVec.extractLsb'_toNat, Nat.shiftRight_eq_div_pow, Nat.mod_eq_of_lt fits]
    rfl
  rw [joypadLines, complement]
  refine and_congr ?_ ?_
  · split
    · simp
    · exact low
  · split
    · simp
    · exact high

/-- With no button pressed no line is low. -/
theorem joypadLines_zero (select : BitVec 2) : joypadLines select 0 = 0xF :=
  (joypadLines_eq_none_iff select 0).2 (by simp)

/-- A poll with no hook registered samples the mask 0 (R225). -/
theorem pollInput_unregistered {s : State} (noHook : s.host.hooks.inputPoll = false) : s.pollInput = s.sampleLines 0 := by
  simp [State.pollInput, noHook]

/-- A poll takes the next reply and samples its mask, when the reply makes no calls (R225, R236). -/
theorem pollInput_answered {s : State} (hook : s.host.hooks.inputPoll = true) {m : Byte} {rs : List HookReply}
    (reply : s.host.replies = ⟨m, []⟩ :: rs) :
    s.pollInput = ((s.note (.call .inputPoll)).setReplies rs).sampleLines m := by
  simp [State.pollInput, State.callHook, State.hookActions, hook, reply]

/-- The counter stands still in a step of stop mode, when the host makes no calls from hooks after the poll (R204). -/
theorem stopCycle_sysCounter {s : State} (noReplies : s.pollInput.host.replies = []) :
    s.stopCycle.timer.sysCounter = s.pollInput.timer.sysCounter :=
  deviceCycle_sysCounter noReplies false

/-- Settles O17: the step is `stopCycle`, which ends stop mode by the lines its poll samples. -/
theorem stopModeStep : Obligations.StopModeStep := by
  intro s loaded unmarked behave unlocked noStall stopped
  have answers := step_of_stopped loaded unmarked behave unlocked noStall stopped
  have time := (ticks_stopCycle s).cycles
  have core := stopCycle_core s
  have before : s.core.stopped = true := stopped
  rw [before, Bool.true_and] at core
  refine ⟨fun m rs hook reply => ?_, fun noHook => ?_⟩
  · have poll := pollInput_answered hook reply
    have lines : s.pollInput.joypad.lastLines = joypadLines s.joypad.select m := by rw [poll]; rfl
    rw [lines, beq_eq_decide, decide_eq_decide.2 (joypadLines_eq_none_iff s.joypad.select m)] at core
    refine ⟨s.stopCycle, answers, time, core, fun noMore => ?_⟩
    rw [stopCycle_sysCounter (by rw [poll]; exact noMore), poll]
    rfl
  · have poll := pollInput_unregistered noHook
    have lines : s.pollInput.joypad.lastLines = 0xF := by rw [poll]; exact joypadLines_zero _
    rw [lines] at core
    refine ⟨s.stopCycle, answers, time, core.trans ?_, fun noReplies => ?_⟩
    · rw [beq_self_eq_true, ← before]
    · rw [stopCycle_sysCounter (by rw [poll]; exact noReplies), poll]
      rfl

end Sys2Proof.Machine

/-! O43, O44 and O45: NOP, DI, EI, HALT and STOP (46_system.md R198 to R205). -/

namespace Sys2Proof.Machine

/-- The start of an instruction step ends the EI delay and records IME for HALT, and the fetches keep both (R119, R37). -/
theorem fetchInstr_startInstr_delay (s : State) :
    s.startInstr.fetchInstr.2.cpu.imePending = false ∧ s.startInstr.fetchInstr.2.cpu.imeBefore = s.cpu.ime := by
  have op : s.startInstr.fetchOp.2.core.imePending = false ∧ s.startInstr.fetchOp.2.core.imeBefore = s.cpu.ime := by
    rw [fetchOp_core, startInstr_core]
    split <;> exact ⟨rfl, rfl⟩
  have operands := latches_fetchOperands s.startInstr.fetchOp.2 s.startInstr.fetchOp.1 (instrLength s.startInstr.fetchOp.1 - 1)
  exact ⟨operands.imePending.trans op.1, operands.imeBefore.trans op.2⟩

/-- Settles O43: the meanings of NOP, DI and EI are these updates, and the fetches find the delay ended. -/
theorem eiDelay : Obligations.EiDelay := by
  refine ⟨fun s => ⟨rfl, rfl, rfl⟩, fun s runs behave delay => ?_⟩
  obtain ⟨i, next, meaning⟩ := runInstr_nextInstr s
  obtain ⟨ended, recorded⟩ := fetchInstr_startInstr_delay s
  refine ⟨i, s.startInstr.fetchInstr.2, next, (step_instr runs behave).trans meaning, ?_, ended, recorded⟩
  rw [fetchInstr_startInstr_ime, delay, Bool.or_true]

/-- HALT by the byte of enabled requests (R201, R202). -/
theorem haltCpu_eq (s : State) :
    s.haltCpu =
      if s.pendingByte = 0 then { s with cpu := { s.cpu with halted := true } }
      else if s.cpu.imeBefore then s
      else { s with cpu := { s.cpu with haltBug := true } } := by
  rw [State.haltCpu, pending_byte]
  by_cases noRequest : s.pendingByte = 0 <;> simp [noRequest]

/-- Settles O44: the three cases of HALT, and the core after an opcode fetch. -/
theorem haltInstr : Obligations.HaltInstr := by
  intro s
  have meaning : exec .halt s = .next s.haltCpu := rfl
  rw [meaning, haltCpu_eq, fetchOp_core]
  refine ⟨fun noRequest => ?_, fun request ime => ?_, fun request noIme => ?_, fun armed => ?_, fun notArmed => ?_⟩
  · rw [if_pos noRequest]
  · rw [if_neg request, if_pos ime]
  · rw [if_neg request, if_neg (by simp [noIme])]
  · rw [if_pos armed]
  · rw [if_neg (by simp [notArmed])]

/-- The counter reset of STOP touches at most TIMA and the reload and overflow latches besides (R204, R205). -/
theorem stopReset_eq (t : Timer) :
    t.stopReset =
      { t with
        sysCounter := 0
        tima := t.stopReset.tima
        reloadPending := t.stopReset.reloadPending
        overflow := t.stopReset.overflow } := by
  rw [Timer.stopReset, Timer.writeDiv, change_eq]

/-- STOP with KEY1 armed in the CGB model switches the speed (R205). -/
theorem stopCpu_armed {s : State} (cgb : s.model = .cgb) (armed : s.speedArmed = true) : s.stopCpu = s.speedSwitch := by
  simp [State.stopCpu, cgb, armed]

/-- In another model, or with KEY1 not armed, STOP enters stop mode (R204). -/
theorem stopCpu_unarmed {s : State} (unarmed : s.model ≠ .cgb ∨ s.speedArmed = false) : s.stopCpu = s.stopMode := by
  unfold State.stopCpu
  split
  · rename_i cgb
    rw [unarmed.resolve_left (not_not_intro cgb), if_neg Bool.false_ne_true]
  · rfl
  · rfl

/-- Settles O45: the speed switch or the entry to stop mode, both with the counter reset. -/
theorem stopInstr : Obligations.StopInstr := by
  intro s n
  have meaning : exec (.stop n) s = .next s.stopCpu := rfl
  rw [meaning]
  refine ⟨fun cgb armed => ?_, fun unarmed => ?_⟩
  · exact ⟨s.speedSwitch, by rw [stopCpu_armed cgb armed], rfl, rfl, stopReset_eq s.timer, rfl, rfl⟩
  · exact ⟨s.stopMode, by rw [stopCpu_unarmed unarmed], stopReset_eq s.timer, rfl, rfl⟩

end Sys2Proof.Machine

/-! O7: every step of a machine that may run answers (00_scope.md R25; 60_exceptions.md R209). -/

namespace Sys2Proof.Machine

/-- Settles O7: the CPU step always answers (`cpuStep_progress`), and only a hook that misuses makes the step a refusal. -/
theorem stepAnswers : Obligations.StepAnswers := by
  intro s loaded
  obtain ⟨n, t, runs, progress⟩ := cpuStep_progress s
  refine ⟨fun unmarked behave => ?_, fun unmarked => ?_, fun marked => ?_⟩
  · exact ⟨t, (step_behaved loaded unmarked behave).trans runs, (progress.fixed.behave behave).1⟩
  · have answers : step s = unlessMisused (.next t) := (step_running loaded unmarked).trans (congrArg unlessMisused runs)
    cases mark : t.host.refusedMark with
    | false => exact .inl ⟨t, answers.trans (by simp [unlessMisused, mark]), mark⟩
    | true => exact .inr (answers.trans (by simp [unlessMisused, mark]))
  · simp [step, State.guardedStep, loaded, marked]

end Sys2Proof.Machine

/-! O9, O10, O18, O19 and O20: the machine after `reset()` (70_reset_and_hazards.md R246 to R255). -/

namespace Sys2Proof.Machine

/-- In every model and boot mode the CPU starts with bits 3:0 of F clear and no latch set (R250, R251). -/
theorem cpuAfterReset_inv (model : Model) (agbRegs bios : Bool) : (Cpu.afterReset model agbRegs bios).Inv := by
  cases bios <;> cases model <;> cases agbRegs <;> exact ⟨by decide, by decide, by decide⟩

theorem serialAfterReset_bits (model : Model) (bios : Bool) : (Serial.afterReset model bios).bits = 0 := by
  cases model <;> rfl

/-- The reset values of the ROM bank registers are 1 (R76 to R82). -/
theorem cartAfterReset_banksNonZero (c : Cart) : c.afterReset.banksNonZero :=
  ⟨fun _ => show (1 : BitVec 5) ≠ 0 by decide, fun _ => show (1 : BitVec 9) ≠ 0 by decide⟩

/-- A reset empties every store but ROM and cartridge RAM, which it keeps (R249, R255). -/
theorem afterReset_dataInv {s : State} (rom : s.rom.wf = true) (cartRam : s.cartRam.wf = true) : s.afterReset.DataInv where
  oamDma := ⟨fun active => absurd active Bool.false_ne_true, fun _ => Nat.zero_lt_succ 159⟩
  hdma := ⟨fun active => absurd active Bool.false_ne_true, Nat.zero_le 128⟩
  serial := by
    rw [show s.afterReset.serial = Serial.afterReset s.model s.bios from rfl, serialAfterReset_bits]
    decide
  banks := cartAfterReset_banksNonZero s.cart
  stores := by
    have io : Mem.wf (if s.bios then [] else postBootRegisters) = true := by split <;> decide
    exact ⟨rom, rfl, rfl, rfl, rfl, cartRam, io⟩

/-- Settles O10: a reset sets the CPU, the clock and the devices, and keeps ROM, cartridge RAM and the metadata. -/
theorem invAfterReset : Obligations.InvAfterReset := fun s h =>
  have ⟨rom, _, _, _, _, cartRam, _⟩ := h.data.stores
  { cpu := cpuAfterReset_inv s.model s.agbRegs s.bios
    data := afterReset_dataInv rom cartRam
    clock := ⟨rfl, rfl, Nat.zero_lt_succ 70223⟩
    cycles := rfl
    event := h.event
    romBanks := h.romBanks }

/-- Settles O9: the machine of `State.reset` is one that a reset leaves, with empty ROM and cartridge RAM. -/
theorem invReset : Obligations.InvReset where
  cpu := cpuAfterReset_inv .dmg false false
  data := afterReset_dataInv (s := State.reset) rfl rfl
  clock := ⟨rfl, rfl, by decide⟩
  cycles := rfl
  event _ none := absurd none (by simp [State.reset, HostSide.initial])
  romBanks := by decide

/-- No latch is set after a reset (R251). -/
theorem cpuAfterReset_latches (model : Model) (agbRegs bios : Bool) :
    let c := Cpu.afterReset model agbRegs bios
    c.ime = false ∧ c.imePending = false ∧ c.halted = false ∧ c.haltBug = false ∧ c.stopped = false ∧ c.lockedUp = false ∧
      c.stallCount = 0 := by
  cases bios <;> cases model <;> exact ⟨rfl, rfl, rfl, rfl, rfl, rfl, rfl⟩

/-- Settles O18: the rows of R250, one for each model and boot mode, and the latches of R251. -/
theorem resetRegisters : Obligations.ResetRegisters := by
  intro s
  obtain ⟨ime, imePending, halted, haltBug, stopped, lockedUp, stall⟩ := cpuAfterReset_latches s.model s.agbRegs s.bios
  have row {agb bios : Bool} {model : Model} (a : s.agbRegs = agb) (b : s.bios = bios) (m : s.model = model) :
      s.afterReset.registerSlots = State.registerSlots { State.reset with cpu := Cpu.afterReset model agb bios } := by
    rw [← a, ← b, ← m]; rfl
  refine ⟨fun noBios dmg => ?_, fun noBios cgb agb => ?_, fun noBios cgb agb => ?_, fun noBios cgbDmg agb => ?_,
    fun noBios cgbDmg agb => ?_, fun bios => ?_, ime, imePending, halted, haltBug, stopped, lockedUp, stall, rfl, rfl⟩
  · cases agb : s.agbRegs <;> exact (row agb noBios dmg).trans rfl
  · exact (row agb noBios cgb).trans rfl
  · exact (row agb noBios cgb).trans rfl
  · exact (row agb noBios cgbDmg).trans rfl
  · exact (row agb noBios cgbDmg).trans rfl
  · cases agb : s.agbRegs <;> cases model : s.model <;> exact (row agb bios model).trans rfl

theorem region_io (s : State) {a : Addr} (lo : 0xFF00 ≤ a.toNat) (hi : a.toNat < 0xFF80) : s.region a = .io (ioReg s.model a) := by
  unfold State.region
  dsimp only
  rw [if_neg (by omega), if_neg (by omega), if_neg (by omega), if_neg (by omega), if_neg (by omega), if_neg (by omega),
    if_neg (by omega), if_pos hi]

/-- A read of the I/O window gives the value of the register there (R55, R57, R66). -/
theorem resolveRead_io (s : State) {a : Addr} {r : IoReg} (register : ioReg s.model a = r) (lo : 0xFF00 ≤ a.toNat)
    (hi : a.toNat < 0xFF80) : (s.resolveRead a).1 = s.ioValue a r := by
  simp [State.resolveRead, region_io s lo hi, register]

theorem resolveRead_ie (s : State) : (s.resolveRead 0xFFFF).1 = s.ie := by
  simp [State.resolveRead, State.region]

/-- A register of the CGB model alone reads 0xFF in the others (R57). -/
theorem ioValue_cgbOnly (s : State) (a : Addr) (r : IoReg) :
    s.ioValue a (cgbOnly s.model r) = if s.model = .cgb then s.ioValue a r else 0xFF := by
  cases model : s.model <;> rfl

/-- LY is 0 at the start of a frame, and with the display off (R231). -/
theorem ly_of_frameStart {s : State} (start : s.ppu.lineTick = 0) : s.ly = 0 := by
  simp [State.ly, start]

theorem serialAfterReset_sb (model : Model) (bios : Bool) : (Serial.afterReset model bios).sb = 0x00 := by
  cases model <;> rfl

/-- SC after a reset, in each model and boot mode (R252, R254). -/
theorem readSc_afterReset (model : Model) (bios : Bool) :
    (Serial.afterReset model bios).readSc model =
      match model, bios with
      | .dmg, _ => 0x7E
      | .cgb, false => 0x7F
      | .cgb, true => 0x7C
      | .cgbDmg, false => 0x7F
      | .cgbDmg, true => 0x7E := by
  cases model <;> cases bios <;> decide

theorem dmaAfterReset_eq (model : Model) (bios : Bool) :
    dmaAfterReset model bios = if bios = false ∧ model = .dmg then 0xFF else 0x00 := by
  cases model <;> cases bios <;> rfl

/-- Settles O19: a read of a register gives its value, which the reset sets. -/
theorem resetDevices : Obligations.ResetDevices := by
  refine ⟨?_, rfl⟩
  intro s reads
  have register {a : Addr} {r : IoReg} (named : ioReg s.model a = r) (lo : 0xFF00 ≤ a.toNat := by decide)
      (hi : a.toNat < 0xFF80 := by decide) : reads a = s.afterReset.ioValue a r := resolveRead_io s.afterReset named lo hi
  have cgbRegister {a : Addr} {r : IoReg} {v : Byte} (value : s.afterReset.ioValue a r = v)
      (named : ioReg s.model a = cgbOnly s.model r) (lo : 0xFF00 ≤ a.toNat := by decide) (hi : a.toNat < 0xFF80 := by decide) :
      reads a = if s.model = .cgb then v else 0xFF := by
    rw [register named lo hi, ← value]
    exact ioValue_cgbOnly s.afterReset a r
  have requests : ∀ bios : Bool, Requests.toByte ⟨!bios, false, false, false, false⟩ = if bios then 0xE0 else 0xE1 := by decide
  refine ⟨?iflags, ?p1, ?sb, ?sc, ?tima, ?tma, ?tac, ?ly, rfl, ?dma, ?key1, ?vbk, ?hdma5, ?svbk, resolveRead_ie _, rfl, fun bios => ?_,
    fun noBios dmg => ?_⟩
  case iflags => exact (register rfl).trans (requests s.bios)
  case p1 => exact (register (r := .p1) rfl).trans (show Joypad.read ⟨0, 0xF⟩ = 0xCF by decide)
  case sb => exact (register (r := .sb) rfl).trans (serialAfterReset_sb s.model s.bios)
  case sc => exact (register (r := .sc) rfl).trans (readSc_afterReset s.model s.bios)
  case tima => exact register (r := .tima) rfl
  case tma => exact register (r := .tma) rfl
  case tac => exact (register (r := .tac) rfl).trans (show 0xF8 ||| BitVec.setWidth 8 (0 : BitVec 3) = 0xF8 by decide)
  case ly => exact (register (r := .ly) rfl).trans (ly_of_frameStart rfl)
  case dma => exact (register (r := .dma) rfl).trans (dmaAfterReset_eq s.model s.bios)
  case key1 => exact cgbRegister (r := .key1) (show 0x7E ||| bitAt 7 false ||| bitAt 0 false = 0x7E by decide) rfl
  case vbk => exact cgbRegister (r := .vbk) (show 0xFE ||| BitVec.setWidth 8 (0 : BitVec 1) = 0xFE by decide) rfl
  case hdma5 => exact (cgbRegister (r := .hdmaControl) (v := 0xFF) rfl rfl).trans (ite_self _)
  case svbk => exact cgbRegister (r := .svbk) (show 0xF8 ||| BitVec.setWidth 8 (0 : BitVec 3) = 0xF8 by decide) rfl
  · simp [State.afterReset, sysCounterAfterReset, bios]
  · have counter : s.afterReset.timer.sysCounter = 0xABCC := by simp [State.afterReset, sysCounterAfterReset, noBios, dmg]
    exact ⟨counter, (register (r := .div) rfl).trans (congrArg hiByte counter)⟩

theorem rom0Bank_reset (c : Cart) : c.afterReset.rom0Bank = 0 := by
  cases kind : c.info.kind <;> simp [Cart.afterReset, Cart.plain, Cart.rom0Bank, Cart.rom0Value, kind]

theorem romxBank_reset (c : Cart) : c.afterReset.romxBank = 1 % c.info.romBanks := by
  cases kind : c.info.kind <;> simp [Cart.afterReset, Cart.plain, Cart.romxBank, Cart.romxValue, kind]

/-- The RAM bank after a reset is 0 where the controller's rules give one (R76 to R82). -/
theorem ramBank_reset {c : Cart} (banks : 0 < c.info.ramBanks) (notMbc2 : c.info.kind ≠ .mbc2) : c.afterReset.ramBank = some 0 := by
  have value : c.afterReset.ramValue = some 0 := by
    cases kind : c.info.kind
    case mbc2 => exact absurd kind notMbc2
    all_goals simp [Cart.afterReset, Cart.plain, Cart.ramValue, kind]
  rw [ramBank_eq_map (show 0 < c.afterReset.info.ramBanks from banks), value, Option.map_some, Nat.zero_mod]

/-- Settles O20: what a reset keeps it does not write, and the banks are those of the controllers' reset values. -/
theorem resetKeeps : Obligations.ResetKeeps := by
  intro s
  refine ⟨rfl, rfl, rfl, rfl, rfl, rfl, rfl, rfl, rfl, rfl, rfl, rfl, rfl, rfl, rfl, rfl, rom0Bank_reset s.cart, romxBank_reset s.cart,
    ramBank_reset, rfl, rfl, rfl, rfl, fun k off other => ?_⟩
  cases k
  case cartRam => exact absurd rfl other
  all_goals rfl

end Sys2Proof.Machine

/-! O12 and O13: the time of a step, and of a `runFor` call (70_reset_and_hazards.md R258 to R263). An instruction takes at most 6 M-cycles
(R275) and a dispatch 5, after one more where the CPU was halted. -/

namespace Sys2Proof.Machine

theorem counts_le_six : ∀ op : Byte, baseCycles.getD op.toNat 0 ≤ 6 ∧ untakenCycles op ≤ 6 := by decide +kernel

theorem cbCycles_le_four (op : Byte) : cbCycles op ≤ 4 := by
  unfold cbCycles; split
  · split <;> decide
  · decide

/-- No instruction takes more than 6 M-cycles (R275). -/
theorem tableCycles_le_six (taken : Cond → Bool) (bs : List Byte) : tableCycles taken bs ≤ 6 := by
  unfold tableCycles
  split
  · rename_i second _
    exact (cbCycles_le_four second).trans (by decide)
  · rename_i op _ _
    obtain ⟨base, untaken⟩ := counts_le_six op
    split
    · split
      · exact base
      · exact untaken
    · exact base
  · decide

/-- The instruction part of a step takes 1 to 6 M-cycles. -/
theorem runInstr_cycles (s : State) : ∃ n t, s.runInstr = .next t ∧ Progress n s t ∧ 1 ≤ n ∧ n ≤ 6 := by
  obtain ⟨i, decodes, runs⟩ := runInstr_decoded s
  have fetched : s.startInstr.fetchInstr.1 = encode i := by rw [encodeDecode _ _ _ decodes, List.append_nil]
  obtain ⟨t, answers, rest⟩ := meaning i s.startInstr.fetchInstr.2
  have progress := ((progress_startInstr s).trans (progress_fetchInstr s.startInstr)).trans rest
  rw [fetched, zero_add, length_add_restCycles] at progress
  have covers := length_le_tableCycles s.startInstr.fetchInstr.2.cond (encode_wellFormed i)
  have first : 1 ≤ (encode i).length := by rw [← fetched]; exact Nat.succ_pos _
  exact ⟨_, t, runs.trans answers, progress, first.trans covers, tableCycles_le_six _ _⟩

theorem atBoundary_cycles (s : State) : ∃ n t, s.atBoundary = .next t ∧ Progress n s t ∧ 1 ≤ n ∧ n ≤ 6 := by
  unfold State.atBoundary; split
  · exact ⟨5, _, rfl, progress_dispatch s, by decide, by decide⟩
  · exact runInstr_cycles s

/-- A CPU step takes 1 to 7 M-cycles (R263). -/
theorem cpuStep_cycles (s : State) : ∃ n t, s.cpuStep = .next t ∧ Progress n s t ∧ 1 ≤ n ∧ n ≤ 7 := by
  unfold State.cpuStep
  split
  · exact ⟨1, _, rfl, progress_internal s, by decide, by decide⟩
  split
  · exact ⟨1, _, rfl, progress_stallCycle s, by decide, by decide⟩
  split
  · exact ⟨1, _, rfl, progress_stopCycle s, by decide, by decide⟩
  split
  · split
    · obtain ⟨n, t, answers, progress, least, most⟩ := atBoundary_cycles s.haltWake
      exact ⟨1 + n, t, answers, (progress_haltWake s).trans progress, by omega, by omega⟩
    · exact ⟨1, _, rfl, progress_internal s, by decide, by decide⟩
  · obtain ⟨n, t, answers, progress, least, most⟩ := atBoundary_cycles s
    exact ⟨n, t, answers, progress, least, by omega⟩

/-- Settles O12: a step is a CPU step, of 1 to 7 M-cycles, and `Ticks` says what they produce. -/
theorem stepBounds : Obligations.StepBounds := by
  intro s t inv answers
  obtain ⟨-, -, runs, -⟩ := step_next answers
  obtain ⟨n, u, hu, progress, least, most⟩ := cpuStep_cycles s
  obtain rfl := Host.Outcome.next.inj (runs.symm.trans hu)
  have ticks := progress.ticks
  refine ⟨n, least, most, ticks.cycles, ticks.least, ticks.most, fun noEvent f event => ?_⟩
  rcases (ticks.clock inv.clock).2 with kept | ⟨-, g, raised, first, last⟩
  · rw [kept, noEvent] at event
    contradiction
  · obtain rfl := Option.some.inj (event.symm.trans raised)
    exact ⟨first, last⟩

/-- The bounds of R263 on the samples and the frame event of a call, at a step boundary in it. -/
structure State.InBounds (s : State) (requested : Nat) : Prop where
  overshoot : s.host.produced ≤ requested + 13
  event : ∀ f, s.host.frameOffset = some f → f < s.host.produced ∧ s.host.produced ≤ f + 14

/-- A call goes on only before the requested samples and before a frame event (R262). -/
theorem runStops_eq_false {s : State} {requested : Nat} (goesOn : s.runStops requested = false) :
    s.host.frameOffset = none ∧ s.host.produced < requested := by
  simp only [State.runStops, Bool.or_eq_false_iff, decide_eq_false_iff_not, Option.isSome_eq_false_iff, Option.isNone_iff_eq_none,
    not_le] at goesOn
  exact goesOn.1

/-- Without a frame event and a stop request a call stops only at the requested samples (R262). -/
theorem requested_of_runStops {s : State} {requested : Nat} (stops : s.runStops requested = true) (noEvent : s.host.frameOffset = none)
    (noStop : s.host.stopRequested = false) : requested ≤ s.host.produced := by
  simpa [State.runStops, noEvent, noStop] using stops

/-- A step that a call still makes keeps the bounds and produces a sample. -/
theorem step_inBounds {s t : State} {requested : Nat} (inv : s.Inv) (goesOn : s.runStops requested = false) (answers : step s = .next t) :
    t.InBounds requested ∧ s.host.produced < t.host.produced := by
  obtain ⟨noEvent, before⟩ := runStops_eq_false goesOn
  obtain ⟨n, least, most, -, produced, atMost, event⟩ := stepBounds s t inv answers
  refine ⟨⟨by omega, fun f raised => ?_⟩, by omega⟩
  obtain ⟨first, last⟩ := event noEvent f raised
  omega

/-- With as many steps as samples are missing, the loop ends where a stopping condition holds, within the bounds. -/
theorem runLoop_bounds (n requested : Nat) {s t : State} (inv : s.Inv) (enough : requested ≤ s.host.produced + n)
    (bounds : s.InBounds requested) (ends : runLoop n requested s = .next t) : t.runStops requested = true ∧ t.InBounds requested := by
  induction n generalizing s with
  | zero =>
    obtain rfl := Host.Outcome.next.inj ends
    exact ⟨by simpa [State.runStops] using .inl (.inr enough), bounds⟩
  | succ n ih =>
    unfold runLoop at ends
    split at ends
    · rename_i stops
      obtain rfl := Host.Outcome.next.inj ends
      exact ⟨stops, bounds⟩
    · rename_i goesOn
      split at ends
      · rename_i u answers
        obtain ⟨within, sample⟩ := step_inBounds inv (Bool.eq_false_iff.2 goesOn) answers
        exact ih (invStep s u inv answers) (by omega) within ends
      · contradiction
      · contradiction

theorem inv_startRun {s : State} (h : s.Inv) (replies : List HookReply) (peer : Peer) : (s.startRun replies peer).Inv where
  cpu := h.cpu
  data := ⟨h.data.1, h.data.2, h.data.3, h.data.4, h.data.5⟩
  clock := h.clock
  cycles := h.cycles
  event _ none := absurd none (Option.some_ne_none _).symm
  romBanks := h.romBanks

/-- Settles O13: a call starts within the bounds with no sample and no frame event, and its loop has a step for every requested sample. -/
theorem runForBounds : Obligations.RunForBounds := by
  intro s t requested replies peer inv ends
  have start : (s.startRun replies peer).InBounds requested :=
    ⟨Nat.zero_le _, fun _ none => absurd none (Option.some_ne_none _).symm⟩
  obtain ⟨stops, overshoot, event⟩ :=
    runLoop_bounds requested requested (inv_startRun inv replies peer) (Nat.le_add_left _ _) start ends
  exact ⟨stops, overshoot, requested_of_runStops stops, event⟩

end Sys2Proof.Machine

/-! O46 and O47: interrupt dispatch (60_exceptions.md R212 to R214). -/

namespace Sys2Proof.Machine

/-- At a boundary with IME set and a request enabled the step is a dispatch (R119, R212). -/
theorem step_of_request {s : State} (running : s.Running) (behave : s.HooksBehave) (ime : s.cpu.ime = true)
    (request : s.pendingByte ≠ 0) : step s = .next s.dispatch := by
  obtain ⟨loaded, unmarked, unlocked, noStall, notStopped, notHalted⟩ := running
  have pending : s.pending = true := (pending_byte s).trans (decide_eq_true request)
  rw [step_behaved loaded unmarked behave]
  simp [State.cpuStep, State.atBoundary, unlocked, noStall, notStopped, notHalted, ime, pending]

theorem dispatchEntry_sp (s : State) : s.dispatchEntry.cpu.sp = s.cpu.sp := by
  rw [sp_core, State.dispatchEntry, internal_core, internal_core]; rfl

theorem sameFrame_dispatchEntry {s : State} (quiet : s.Quiet) : SameFrame s s.dispatchEntry :=
  have latches := SameFrame.cpu s { s.cpu with ime := false, imePending := false, haltBug := false }
  latches.trans (sameFrame_twoInternals (latches.quiet quiet))

theorem sameFrame_acknowledge (s : State) (winner : Option Nat) : SameFrame s (s.acknowledge winner) := by
  cases winner <;> exact ⟨rfl, rfl, id⟩

/-- The machine of a dispatch after the push of the high byte of the return address, in which the winner is chosen (R213). -/
def State.pushedHigh (s : State) : State := s.dispatchEntry.pushByte (hiByte s.dispatchReturn)

/-- The machine of a dispatch after both pushes. -/
def State.pushedBoth (s : State) : State := s.pushedHigh.pushByte (loByte s.dispatchReturn)

/-- A dispatch whose winner is request k clears it in IF and goes to its vector (R212, R213). -/
theorem dispatch_winner {s : State} {k : Nat} (low : k < 5) (set : bit s.pushedHigh.pendingByte k = true)
    (lowest : ∀ j, j < k → bit s.pushedHigh.pendingByte j = false) :
    s.dispatch = (State.internal { s.pushedBoth with irq := Requests.ofByte (s.pushedBoth.irq.toByte &&& ~~~(1#8 <<< k)) }).setPc
      (BitVec.ofNat 16 (0x40 + 8 * k)) := by
  have winner : lowestSet s.pushedHigh.pendingBits = some k := winner_byte _ low set lowest
  rw [← clear_byte s.pushedBoth.irq k low]
  show (s.pushedBoth.acknowledge (lowestSet s.pushedHigh.pendingBits)).jump (dispatchTarget (lowestSet s.pushedHigh.pendingBits)) = _
  rw [winner]; rfl

/-- A dispatch with no winner left clears nothing and goes to 0 (R213, R214). -/
theorem dispatch_noWinner {s : State} (noneLeft : s.pushedHigh.pendingByte = 0) : s.dispatch = s.pushedBoth.internal.setPc 0 := by
  show (s.pushedBoth.acknowledge (lowestSet s.pushedHigh.pendingBits)).jump (dispatchTarget (lowestSet s.pushedHigh.pendingBits)) = _
  rw [winner_none _ noneLeft, State.acknowledge, State.jump, dispatchTarget]

/-- The core after a dispatch, for the address it goes to. -/
theorem dispatch_core_pc {s : State} {target : Addr} (pc : s.dispatch.cpu.pc = target) :
    s.dispatch.core = { s.core with ime := false, imePending := false, haltBug := false, sp := s.cpu.sp - 2, pc := target } := by
  have core := dispatch_core s
  have vector := congrArg Cpu.pc core
  rw [← pc_core, pc] at vector
  rw [core, vector]

/-- A dispatch leaves two stores below SP, the high byte of the return address first (R213). -/
theorem dispatch_wroteTwo (s : State) :
    s.WroteTwo s.pushedHigh s.dispatch (s.cpu.sp - 1) (s.cpu.sp - 2) (hiByte s.dispatchReturn) (loByte s.dispatchReturn) := by
  intro quiet
  have entry := sameFrame_dispatchEntry quiet
  have pushes := push_wroteTwo s.dispatchEntry (hiByte s.dispatchReturn) (loByte s.dispatchReturn)
  rw [dispatchEntry_sp] at pushes
  refine wroteTwo_after (entry.wroteTwo pushes) (fun _ high low => ?_) quiet
  have first := (pushByte_frame (entry.quiet quiet) (hiByte s.dispatchReturn) (by rw [dispatchEntry_sp]; exact high)).2.1
  have sp : s.pushedHigh.cpu.sp - 1 = s.cpu.sp - 2 := by
    rw [State.pushedHigh, pushByte_sp, dispatchEntry_sp]; bv_omega
  have second := (pushByte_frame (s := s.pushedHigh) first (loByte s.dispatchReturn) (by rw [sp]; exact low)).2.1
  have ack := sameFrame_acknowledge s.pushedBoth (lowestSet s.pushedHigh.pendingBits)
  exact ack.trans (sameFrame_jump (ack.quiet second) _)

/-- Settles O46: the step is a dispatch, which is the two pushes and then the winner of the machine between them. -/
theorem dispatch : Obligations.Dispatch := by
  intro s running behave ime request ret u x
  refine ⟨s.dispatch, step_of_request running behave ime request, (ticks_dispatch s).cycles, dispatch_wroteTwo s,
    fun k low set lowest => ?_, fun noneLeft => ?_⟩
  · have winner := dispatch_winner (s := s) low set lowest
    exact ⟨dispatch_core_pc (by rw [winner]; rfl), winner⟩
  · have noWinner := dispatch_noWinner (s := s) noneLeft
    exact ⟨dispatch_core_pc (by rw [noWinner]; rfl), noWinner⟩

/-- Where the first push reaches IE the winner is chosen by the byte pushed (R214). -/
theorem pushedHigh_ie {s : State} (quiet : s.Quiet) (sp : s.cpu.sp = 0x0000) : s.pushedHigh.ie = hiByte s.dispatchReturn :=
  pushByte_ie ((sameFrame_dispatchEntry quiet).quiet quiet) _ (by rw [dispatchEntry_sp, sp]; decide)

theorem dispatchEntry_irq {s : State} (quiet : s.Quiet) : Grows s.irq s.dispatchEntry.irq :=
  have latches := SameFrame.cpu s { s.cpu with ime := false, imePending := false, haltBug := false }
  have first := sameFrame_internal (latches.quiet quiet)
  (internal_irq (latches.quiet quiet)).trans (internal_irq (first.quiet (latches.quiet quiet)))

section
variable {s : State} (quiet : s.Quiet)
include quiet

/-- A first push outside the I/O window leaves the machine quiet and clears no request. -/
theorem pushedHigh_frame (starts : startsDma (s.cpu.sp - 1) = false)
    (notIo : (s.cpu.sp - 1).toNat < 0xFF00 ∨ 0xFF80 ≤ (s.cpu.sp - 1).toNat) : s.pushedHigh.Quiet ∧ Grows s.irq s.pushedHigh.irq := by
  have entry := (sameFrame_dispatchEntry quiet).quiet quiet
  rw [← dispatchEntry_sp s] at starts notIo
  exact ⟨(pushByte_frame entry _ starts).2.1, (dispatchEntry_irq quiet).trans (pushByte_irq entry _ starts notIo)⟩

/-- With SP = 0 and no winner left the dispatch clears no request: the second push is to HRAM (R214). -/
theorem dispatch_irq_noWinner (sp : s.cpu.sp = 0x0000) (noneLeft : s.pushedHigh.pendingByte = 0) : Grows s.irq s.dispatch.irq := by
  obtain ⟨first, grows⟩ := pushedHigh_frame quiet (by rw [sp]; decide) (by rw [sp]; decide)
  have sp' : s.pushedHigh.cpu.sp - 1 = 0xFFFE := by
    rw [State.pushedHigh, pushByte_sp, dispatchEntry_sp, sp]; decide
  have starts : startsDma (s.pushedHigh.cpu.sp - 1) = false := by rw [sp']; decide
  have second : Grows s.pushedHigh.irq s.pushedBoth.irq := pushByte_irq first _ starts (by rw [sp']; decide)
  have last : Grows s.pushedBoth.irq s.pushedBoth.internal.irq := internal_irq (pushByte_frame first _ starts).2.1
  have after : s.dispatch.irq = s.pushedBoth.internal.irq := by simp only [dispatch_noWinner noneLeft, setPc_fields]
  rw [after]
  exact grows.trans (second.trans last)

/-- With SP = 1 the first push is to ROM and disables no request (R214). -/
theorem pushedHigh_pendingByte (sp : s.cpu.sp = 0x0001) (request : s.pendingByte ≠ 0) : s.pushedHigh.pendingByte ≠ 0 := by
  have starts : startsDma (s.cpu.sp - 1) = false := by rw [sp]; decide
  obtain ⟨-, grows⟩ := pushedHigh_frame quiet starts (by rw [sp]; decide)
  have entry := sameFrame_dispatchEntry quiet
  have kept := (pushByte_frame (entry.quiet quiet) (hiByte s.dispatchReturn) (by rw [dispatchEntry_sp]; exact starts)).1.2.2
  have ie : s.pushedHigh.ie = s.ie := (kept (by rw [dispatchEntry_sp, sp]; decide)).trans (congrArg Memory.ie entry.memory)
  refine fun noneLeft => request (BitVec.eq_of_getLsbD_eq fun k _ => ?_)
  cases set : s.pendingByte.getLsbD k with
  | false => exact BitVec.getLsbD_zero.symm
  | true => rw [← pendingByte_le grows ie k set, noneLeft]; rfl

end

/-- A byte of enabled requests has a lowest one. -/
theorem exists_lowestRequest : ∀ v : Byte, v &&& 0x1F ≠ 0 →
    ∃ k, k < 5 ∧ bit (v &&& 0x1F) k = true ∧ ∀ j, j < k → bit (v &&& 0x1F) j = false := by decide +kernel

/-- A dispatch with a winner goes to a vector, which is not 0 (R213). -/
theorem dispatch_pc_ne_zero {s : State} (left : s.pushedHigh.pendingByte ≠ 0) : s.dispatch.cpu.pc ≠ 0x0000 := by
  obtain ⟨k, low, set, lowest⟩ := exists_lowestRequest _ left
  have vectors : ∀ k < 5, BitVec.ofNat 16 (0x40 + 8 * k) ≠ 0x0000 := by decide
  rw [dispatch_winner low set lowest]
  exact vectors k low

/-- Settles O47: SP chooses which of the two pushes is at 0xFFFF. -/
theorem dispatchPushesIe : Obligations.DispatchPushesIe := by
  intro s running quiet ime request noBug
  have answers := step_of_request running (behave_of_no_replies quiet.1) ime request
  have returns : s.dispatchReturn = s.cpu.pc := by rw [State.dispatchReturn, noBug]; rfl
  have stores := dispatch_wroteTwo s quiet
  rw [returns] at stores
  refine ⟨fun sp => ⟨s.dispatch, answers, ?_, fun disables => ?_⟩, fun sp => ⟨s.dispatch, answers, ?_, ?_⟩⟩
  · rw [sp] at stores
    obtain ⟨-, -, -, -, high, -⟩ := stores (by decide) (by decide)
    exact high (by decide) (by decide)
  · have noneLeft : s.pushedHigh.pendingByte = 0 := by
      rw [State.pendingByte, pushedHigh_ie quiet sp, returns, BitVec.and_assoc, BitVec.and_comm _ 0x1F, ← BitVec.and_assoc]
      exact (congrArg (· &&& _) disables).trans BitVec.zero_and
    exact ⟨by rw [dispatch_noWinner noneLeft]; rfl, (dispatch_irq_noWinner quiet sp noneLeft).bits⟩
  · rw [sp] at stores
    obtain ⟨-, -, -, -, -, low⟩ := stores (by decide) (by decide)
    exact low (by decide)
  · exact dispatch_pc_ne_zero (pushedHigh_pendingByte quiet sp request)

end Sys2Proof.Machine

/-! O55: a CPU read of P1 (60_exceptions.md R224, R225). -/

namespace Sys2Proof.Machine

/-- A CPU read of P1 polls the input and gives the select bits and the lines sampled (R224). -/
theorem cpuRead_p1 (s : State) : s.cpuRead 0xFF00 = (s.pollInput.joypad.read, s.pollInput.nextDraw) := by
  have free : s.dmaBlocks 0xFF00 = false := by simp [State.dmaBlocks]
  rw [State.cpuRead, free, if_neg Bool.false_ne_true, if_pos (by decide)]
  rfl

/-- P1 as a number: bits 7:6 read 1 (R224). -/
theorem joypadRead_eq (j : Joypad) : j.read = BitVec.ofNat 8 (0xC0 + 16 * j.select.toNat + j.lastLines.toNat) := by
  have table : ∀ (select : BitVec 2) (lines : BitVec 4),
      (0b11#2 ++ select) ++ lines = BitVec.ofNat 8 (0xC0 + 16 * select.toNat + lines.toNat) := by decide
  exact table j.select j.lastLines

/-- The lines as a number: a selected button that is pressed is a 0 bit (R224). -/
theorem joypadLines_toNat (select : BitVec 2) (mask : Byte) :
    (joypadLines select mask).toNat =
      15 - ((if select.getLsbD 1 then 0 else mask.toNat % 16) ||| (if select.getLsbD 0 then 0 else mask.toNat / 16)) := by
  have high : (highNibble mask).toNat = mask.toNat / 16 := by
    have fits : mask.toNat / 2 ^ 4 < 2 ^ 4 := by have := mask.isLt; omega
    rw [highNibble, BitVec.extractLsb'_toNat, Nat.shiftRight_eq_div_pow, Nat.mod_eq_of_lt fits]; rfl
  rw [joypadLines, BitVec.toNat_not, BitVec.toNat_or, apply_ite BitVec.toNat, apply_ite BitVec.toNat, high]
  rfl

/-- A line is newly pressed when it was 1 and is 0 (R225). -/
theorem newlyPressed_eq : ∀ before lines : BitVec 4,
    ((before &&& ~~~lines) != 0) = decide (before.toNat &&& (15 - lines.toNat) ≠ 0) := by decide

/-- Settles O55: the poll takes the reply, or none, and samples its mask. -/
theorem joypadRead : Obligations.JoypadRead := by
  refine ⟨?_, fun s noHook => ?_⟩
  · intro s m rs hook reply act dir low
    have poll := pollInput_answered hook reply
    have lines : (joypadLines s.joypad.select m).toNat = low := joypadLines_toNat s.joypad.select m
    rw [cpuRead_p1, poll]
    refine ⟨?_, ?_, rfl, ?_⟩
    · rw [← lines]
      exact joypadRead_eq ⟨s.joypad.select, joypadLines s.joypad.select m⟩
    · rw [← lines, BitVec.ofNat_toNat, BitVec.setWidth_eq]; rfl
    · rw [← lines, ← newlyPressed_eq]; rfl
  · rw [cpuRead_p1, pollInput_unregistered noHook]
    have read := joypadRead_eq ⟨s.joypad.select, joypadLines s.joypad.select 0⟩
    rw [joypadLines_zero, Nat.add_right_comm] at read
    rw [State.sampleLines, joypadLines_zero]
    exact read

end Sys2Proof.Machine

/-! O52: the timer (60_exceptions.md R217 to R223). -/

namespace Sys2Proof.Machine

/-- A write in the I/O window is the action of the register there, also while OAM DMA is active (R55, R57, R67, R69). -/
theorem resolveWrite_io (s : State) {a : Addr} {r : IoReg} (register : ioReg s.model a = r) (lo : 0xFF00 ≤ a.toNat)
    (hi : a.toNat < 0xFF80) (v : Byte) : s.resolveWrite a v = s.ioWrite a v r := by
  have free : s.dmaBlocks a = false := by simp [State.dmaBlocks, lo]
  simp [State.resolveWrite, free, region_io s lo hi, register]

/-- A CPU write of a register other than P1 is its action in a machine whose units are as before, and then an M-cycle. -/
theorem memWrite_register {s : State} (noReplies : s.host.replies = []) {a : Addr} {r : IoReg} (register : ∀ m, ioReg m a = r)
    (lo : 0xFF00 < a.toNat) (hi : a.toNat < 0xFF80) (v : Byte) :
    ∃ t, SameUnits s t ∧ s.memWrite a v = (t.ioWrite a v r).internal := by
  have hook := units_fire noReplies s.host.hooks.write (.write a s.hookOffset)
  generalize hooked : s.fire s.host.hooks.write (.write a s.hookOffset) = h at hook
  have log : SameUnits h (h.codeData a .data) := units_fire (hook.replies.trans noReplies) _ _
  have notP1 : isP1 a = false := by
    rw [isP1, beq_eq_false_iff_ne]
    rintro rfl
    exact absurd lo (by decide)
  refine ⟨h.codeData a .data, hook.trans log, ?_⟩
  rw [State.memWrite, hooked, State.cpuWrite, notP1, if_neg Bool.false_ne_true, resolveWrite_io _ (register _) lo.le hi]
  rfl

/-- TIMA increments where the input signal falls (R221). -/
theorem change_falls {t : Timer} {n : BitVec 16} {tac : BitVec 3} (high : t.signal = true)
    (falls : Timer.signal { t with sysCounter := n, tac := tac } = false) :
    t.change n tac = Timer.increment { t with sysCounter := n, tac := tac } := by
  rw [Timer.change, high, falls]; rfl

/-- An M-cycle in which TIMA overflows leaves it 0, with the reload pending (R221, R223). -/
theorem endCycle_overflow {t : Timer} (full : t.tima = 0xFF) (notPending : t.reloadPending = false) (high : t.signal = true)
    (falls : Timer.signal { t with sysCounter := t.sysCounter + 4 } = false) :
    t.endCycle true =
      { t with sysCounter := t.sysCounter + 4, tima := 0x00, overflow := false, reloadPending := true, reloadedNow := false } := by
  rw [Timer.endCycle, if_pos rfl, change_falls high falls]
  simp [Timer.increment, full, notPending]

/-- The M-cycle after an overflow reloads TIMA from TMA, whether the input signal falls again or not (R222, R223). -/
theorem endCycle_reload {t : Timer} (notFull : t.tima ≠ 0xFF) (noOverflow : t.overflow = false) (pending : t.reloadPending = true) :
    t.endCycle true =
      { t with sysCounter := t.sysCounter + 4, tima := t.tma, overflow := false, reloadPending := false, reloadedNow := true } := by
  have again : (t.change (t.sysCounter + 4) t.tac).overflow = false := by
    unfold Timer.change
    dsimp only
    split
    · simpa [Timer.increment, noOverflow] using notFull
    · exact noOverflow
  rw [Timer.endCycle, if_pos rfl, again, change_eq, if_pos pending, pending]

/-- The reload is over in the M-cycle after it (R223). -/
theorem endCycle_reloadedNow (t : Timer) : (t.endCycle true).reloadedNow = t.reloadPending := rfl

/-- Settles O52: the timer's part of an M-cycle is `Timer.endCycle`, after the write where there is one. -/
theorem timerReload : Obligations.TimerReload := by
  refine ⟨fun s quiet => ?_, ?_⟩
  · have noReplies := quiet.1
    obtain ⟨timer, irq⟩ := internal_timer noReplies
    have counter : s.internal.timer.sysCounter = s.timer.sysCounter + 4 := by rw [timer, endCycle_sysCounter, if_pos rfl]
    refine ⟨timer, irq, counter, congrArg hiByte counter, fun v => ?_⟩
    obtain ⟨t, units, writesTima⟩ := memWrite_register (r := .tima) noReplies (fun _ => rfl) (a := 0xFF05) (by decide) (by decide) v
    obtain ⟨u, units', writesTma⟩ := memWrite_register (r := .tma) noReplies (fun _ => rfl) (a := 0xFF06) (by decide) (by decide) v
    obtain ⟨tima, timaIrq⟩ := internal_timer (s := t.ioWrite 0xFF05 v .tima) (units.replies.trans noReplies)
    obtain ⟨tma, tmaIrq⟩ := internal_timer (s := u.ioWrite 0xFF06 v .tma) (units'.replies.trans noReplies)
    rw [writesTima, writesTma, tima, timaIrq, tma, tmaIrq]
    simp only [State.ioWrite, units.timer, units.timerIrq, units'.timer, units'.timerIrq, Timer.writeTma, and_self]
  · intro t full noOverflow notPending high falls k
    have overflowed : k = _ := endCycle_overflow full notPending high falls
    have reloaded : k.endCycle true = _ :=
      endCycle_reload (by simp [overflowed]) (by simp [overflowed]) (by simp [overflowed])
    refine ⟨by rw [overflowed], by rw [overflowed], by rw [reloaded, overflowed], by rw [reloaded], by rw [reloaded], fun v => ?_,
      fun v => ?_, by rw [endCycle_reloadedNow, reloaded]⟩
    · simp [overflowed, Timer.writeTima]
    · simp [reloaded, Timer.writeTima, Timer.writeTma]

end Sys2Proof.Machine

/-! O56: the breakpoint check (60_exceptions.md R241; 70_reset_and_hazards.md R262). Only an opcode fetch makes it; `SameHit` is kept by
everything else (Laws/Hits.lean). -/

namespace Sys2Proof.Machine

/-- A bank-independent entry matches at its address, another one where its bank is the active one (R241). -/
theorem matches_iff (b : Breakpoint) (s : State) (a : Addr) :
    b.matches s a = true ↔ b.addr = a ∧ (b.bank = none ∨ b.bank = some (s.activeBank a)) := by
  obtain ⟨bank, addr⟩ := b
  cases bank <;> simp [Breakpoint.matches]

/-- The exec hook and the code/data log keep the hits, the breakpoint set and every active bank that a rule gives. -/
theorem fetchHooks_keeps {s : State} (noReplies : s.host.replies = []) :
    SameHit s s.fetchHooks ∧ s.fetchHooks.host.breakpoints = s.host.breakpoints ∧
      ∀ a, (0xA000 ≤ a.toNat → a.toNat < 0xC000 → s.cart.ramBank ≠ none) → s.fetchHooks.activeBank a = s.activeBank a := by
  have hook := hit_fire noReplies s.host.hooks.exec (.exec s.cpu.pc s.hookOffset)
  obtain ⟨breakpoints, cart, bank⟩ := hooks_fire noReplies s.host.hooks.exec (.exec s.cpu.pc s.hookOffset)
  unfold State.fetchHooks
  generalize s.fire s.host.hooks.exec (.exec s.cpu.pc s.hookOffset) = t at hook breakpoints cart bank ⊢
  have noReplies' := hook.replies noReplies
  obtain ⟨breakpoints', -, bank'⟩ := hooks_fire (s := t) noReplies' t.host.hooks.codeData
    (.codeData (t.codeDataAddress s.cpu.pc).1 (t.codeDataAddress s.cpu.pc).2 CdlFlag.execOpcode.bits)
  exact ⟨hook.trans (hit_codeData noReplies' _ _), breakpoints'.trans breakpoints,
    fun a given => (bank' a (by rw [cart]; exact given)).trans (bank a given)⟩

/-- After the check an opcode fetch records no hit. -/
theorem hit_opcodeHooks {s : State} (noReplies : s.opcodeHooks.host.replies = []) : SameHit s.opcodeHooks s.fetchOp.2 := by
  have read := hit_cpuRead noReplies s.cpu.pc
  have next : ∀ t : State, SameHit t t.nextPc := by
    intro t
    unfold State.nextPc
    split <;> exact ⟨rfl, rfl, id⟩
  have fetched := read.trans (next _)
  exact fetched.trans (hit_deviceCycle (fetched.replies noReplies) true)

/-- A fetch that matches an entry records its address as hit and asks to stop (R241). -/
theorem fetchOp_hit {s : State} (noReplies : s.host.replies = [])
    (hit : s.fetchHooks.host.breakpoints.any (·.matches s.fetchHooks s.cpu.pc) = true) :
    s.fetchOp.2.host.hitAddress = some s.cpu.pc ∧ s.fetchOp.2.host.stopRequested = true := by
  have check : s.opcodeHooks =
      { s.fetchHooks with host := { s.fetchHooks.host with hitAddress := some s.cpu.pc, stopRequested := true } } := by
    rw [State.opcodeHooks, State.checkBreakpoint, if_pos hit]
  obtain ⟨hooks, -⟩ := fetchHooks_keeps noReplies
  have fetch := hit_opcodeHooks (s := s) (by rw [check]; exact hooks.replies noReplies)
  rw [fetch.hit, fetch.stop, check]
  exact ⟨rfl, rfl⟩

/-- A fetch that matches no entry does neither. -/
theorem fetchOp_noHit {s : State} (noReplies : s.host.replies = [])
    (noHit : s.fetchHooks.host.breakpoints.any (·.matches s.fetchHooks s.cpu.pc) = false) : SameHit s s.fetchOp.2 := by
  have check : s.opcodeHooks = s.fetchHooks := by
    rw [State.opcodeHooks, State.checkBreakpoint, if_neg (by simp [noHit])]
  obtain ⟨hooks, -⟩ := fetchHooks_keeps noReplies
  have fetch := hit_opcodeHooks (s := s) (by rw [check]; exact hooks.replies noReplies)
  rw [check] at fetch
  exact hooks.trans fetch

/-- Settles O56: the check of an opcode fetch, and for every other access that it keeps `SameHit`. -/
theorem breakpointHit : Obligations.BreakpointHit := by
  intro s noReplies bank
  obtain ⟨-, breakpoints, active⟩ := fetchHooks_keeps noReplies
  refine ⟨fun ⟨b, mem, matching⟩ => ?_, fun noMatch => ?_, active s.cpu.pc, ?_, ?_, ?_, ?_, ?_, ?_⟩
  · obtain ⟨hit, stop⟩ := fetchOp_hit noReplies (by
      rw [breakpoints]
      exact List.any_eq_true.2 ⟨b, mem, (matches_iff b _ _).2 matching⟩)
    exact ⟨hit, stop, fun n => by simp [State.runStops, stop]⟩
  · have fetch := fetchOp_noHit noReplies (by
      rw [breakpoints]
      refine List.any_eq_false.2 fun b mem matching => ?_
      obtain ⟨addr, any | this⟩ := (matches_iff b _ _).1 matching
      · exact (noMatch b mem addr).1 any
      · exact (noMatch b mem addr).2 this)
    exact ⟨fetch.hit, fetch.stop⟩
  · intro kept
    have same {t : State} (h : SameHit s t) : kept t := ⟨h.hit, h.stop⟩
    refine ⟨same (hit_fetchImm noReplies), same (hit_deviceCycle noReplies true), fun a => same (hit_memRead noReplies a),
      fun a v => same (hit_memWrite noReplies a v), fun a => same ?_, fun a v => same ?_⟩
    · exact (hit_fire noReplies _ _).trans (hit_resolveRead _ a)
    · exact (hit_fire noReplies _ _).trans (hit_resolveWrite _ a v)
  · exact fun a hi => if_pos hi
  · exact fun a lo hi => (if_neg (by omega)).trans (if_pos hi)
  · exact fun a lo hi => (if_neg (by omega)).trans ((if_neg (by omega)).trans (if_pos ⟨lo, hi⟩))
  · exact fun a range => (if_neg (by omega)).trans ((if_neg (by omega)).trans ((if_neg (by omega)).trans (if_pos range)))
  · exact fun a range => (if_neg (by omega)).trans ((if_neg (by omega)).trans ((if_neg (by omega)).trans (if_neg (by omega))))

end Sys2Proof.Machine

/-! O51: OAM DMA from WRAM (60_exceptions.md R228; 20_memory.md R69). The M-cycle of the write starts the transfer, and each M-cycle after
it moves one byte (Laws/Dma.lean). -/

namespace Sys2Proof.Machine

/-- An address of WRAM by its page and the byte in it. -/
theorem word_page {v : Byte} {i : Nat} (small : i < 256) : (word v (BitVec.ofNat 8 i)).toNat = v.toNat * 256 + i := by
  have byte : (BitVec.ofNat 8 i).toNat = i := by rw [BitVec.toNat_ofNat, Nat.mod_eq_of_lt small]
  have low : (BitVec.ofNat 8 i).toNat < 2 ^ 8 := BitVec.isLt _
  rw [word, BitVec.toNat_append, ← Nat.shiftLeft_add_eq_or_of_lt low, Nat.shiftLeft_eq, byte]

theorem region_wram (s : State) {a : Addr} (lo : 0xC000 ≤ a.toNat) (hi : a.toNat < 0xE000) :
    s.region a = .wram (s.wramOffset (a.toNat - 0xC000)) := by
  unfold State.region
  dsimp only
  rw [if_neg (by omega), if_neg (by omega), if_neg (by omega), if_pos hi]

/-- `t` is a machine in which a transfer of a page of WRAM of `s` has moved its first `n` bytes. -/
structure DmaMoved (s : State) (v : Byte) (n : Nat) (t : State) : Prop where
  quiet : NoVramDma t
  oamDma : t.oamDma = ⟨v, false, decide (n < 160), n⟩
  wram : t.wram = s.wram
  model : t.model = s.model
  svbk : t.svbk = s.svbk
  moved : ∀ i, i < n → t.ramByte .oam i = s.ramByte .wram (s.wramOffset (v.toNat * 256 + i - 0xC000))

/-- The OAM DMA phase of an M-cycle moves the next byte. -/
theorem oamDmaPhase_moves {s t : State} {v : Byte} {n : Nat} (lo : 0xC0 ≤ v.toNat) (hi : v.toNat < 0xE0) (more : n < 160)
    (h : DmaMoved s v n t) : DmaMoved s v (n + 1) t.oamDmaPhase := by
  have address := word_page (v := v) (i := n) (by omega)
  have source : oamDmaSource (word v (BitVec.ofNat 8 n)) = word v (BitVec.ofNat 8 n) := if_pos (by omega)
  have bank : t.wramOffset = s.wramOffset := by
    funext k
    unfold State.wramOffset State.wramBank
    rw [h.model, h.svbk]
  have byte : t.ramByte .wram = s.ramByte .wram := by
    funext off
    simp only [State.ramByte, State.store, h.wram, h.model]
  have read : t.resolveRead (oamDmaSource (word t.oamDma.reg (BitVec.ofNat 8 t.oamDma.index))) =
      (s.ramByte .wram (s.wramOffset (v.toNat * 256 + n - 0xC000)), t) := by
    rw [h.oamDma, source, State.resolveRead, region_wram t (by omega) (by omega), address, byte, bank]
  have phase : t.oamDmaPhase = { t with
      oam := t.oam.write n (s.ramByte .wram (s.wramOffset (v.toNat * 256 + n - 0xC000)))
      oamDma := ⟨v, false, decide (n + 1 < 160), n + 1⟩ } := by
    simp only [State.oamDmaPhase, State.oamDmaMove, read]
    simp [h.oamDma, more]
  rw [phase]
  refine ⟨h.quiet, rfl, h.wram, h.model, h.svbk, fun i below => ?_⟩
  by_cases this : i = n
  · subst this
    simp [State.ramByte, State.store]
  · rw [← h.moved i (by omega)]
    simp [State.ramByte, State.store, read_write_other _ _ this]

theorem DmaMoved.of_sameDma {s t u : State} {v : Byte} {n : Nat} (h : DmaMoved s v n t) (k : SameDma t u) : DmaMoved s v n u where
  quiet := k.quiet h.quiet
  oamDma := k.oamDma.trans h.oamDma
  wram := k.wram.trans h.wram
  model := k.model.trans h.model
  svbk := k.svbk.trans h.svbk
  moved i below := by
    rw [← h.moved i below]
    simp only [State.ramByte, State.store, k.oam, k.model]

/-- An M-cycle of a transfer moves the next byte, whatever else it does. -/
theorem internal_moves {s t : State} {v : Byte} {n : Nat} (lo : 0xC0 ≤ v.toNat) (hi : v.toNat < 0xE0) (more : n < 160)
    (h : DmaMoved s v n t) : DmaMoved s v (n + 1) t.internal :=
  have moved := oamDmaPhase_moves lo hi more (h.of_sameDma (u := t.timerPhase true) ⟨rfl, rfl, rfl, rfl, rfl, id⟩)
  moved.of_sameDma (dma_internal moved.quiet)

/-- The M-cycle of a write to DMA starts a transfer and moves no byte. -/
theorem memWrite_dma {s : State} (quiet : NoVramDma s) (v : Byte) : DmaMoved s v 0 (s.memWrite 0xFF46 v) := by
  have hook := dma_fire quiet s.host.hooks.write (.write 0xFF46 s.hookOffset)
  generalize hooked : s.fire s.host.hooks.write (.write 0xFF46 s.hookOffset) = h at hook
  have same : SameDma s (h.codeData 0xFF46 .data) := hook.trans (dma_fire (hook.quiet quiet) _ _)
  generalize logged : h.codeData 0xFF46 .data = t at same
  have writes : s.memWrite 0xFF46 v = (t.ioWrite 0xFF46 v .dma).internal := by
    rw [State.memWrite, hooked, logged, State.cpuWrite, if_neg (by decide),
      resolveWrite_io t (r := .dma) rfl (by decide) (by decide)]
    rfl
  have phase : ((t.ioWrite 0xFF46 v .dma).timerPhase true).oamDmaPhase =
      { t.timerPhase true with oamDma := ⟨v, false, true, 0⟩ } := rfl
  have started : DmaMoved s v 0 ((t.ioWrite 0xFF46 v .dma).timerPhase true).oamDmaPhase := by
    rw [phase]
    exact ⟨same.quiet quiet, rfl, same.wram, same.model, same.svbk, fun i none => absurd none (Nat.not_lt_zero i)⟩
  rw [writes]
  exact started.of_sameDma (dma_internal started.quiet)

/-- The M-cycles after it move a byte each (R228). -/
theorem internals_moves {s t : State} {v : Byte} (lo : 0xC0 ≤ v.toNat) (hi : v.toNat < 0xE0) (start : DmaMoved s v 0 t) {n : Nat}
    (most : n ≤ 160) : DmaMoved s v n (t.internals n) := by
  induction n with
  | zero => exact start
  | succ n ih => rw [internals_succ]; exact internal_moves lo hi most (ih (Nat.le_of_succ_le most))

/-- Below 0xFF00 an active transfer blocks the CPU: a write does nothing, and a read gives `State.conflictValue` (R69). -/
theorem cpu_blocked {s : State} {a : Addr} (active : s.oamDma.active = true) (low : a.toNat < 0xFF00) (v : Byte) :
    s.cpuWrite a v = s ∧ s.cpuRead a = (s.conflictValue a, s.nextDraw) := by
  have blocks : s.dmaBlocks a = true := by simp [State.dmaBlocks, active, low]
  have notP1 : isP1 a = false := by
    rw [isP1, beq_eq_false_iff_ne]
    rintro rfl
    exact absurd low (by decide)
  exact ⟨by rw [State.cpuWrite, notP1, State.resolveWrite, if_pos blocks]; rfl, by rw [State.cpuRead, if_pos blocks]⟩

/-- Settles O51: the M-cycle of the write and the 160 after it, and what `cpu_blocked` says of the CPU in them. -/
theorem oamDmaTransfer : Obligations.OamDmaTransfer := by
  refine ⟨?_, fun s a v active low => ?_⟩
  · intro s v ⟨noReplies, _, _, noHBlank, noGeneral⟩ lo hi t
    have done : DmaMoved s v 160 t := internals_moves lo hi (memWrite_dma ⟨noReplies, noHBlank, noGeneral⟩ v) le_rfl
    rw [done.oamDma]
    exact ⟨rfl, rfl, rfl, done.moved⟩
  · obtain ⟨write, read⟩ := cpu_blocked active low v
    rw [write, read]
    exact ⟨rfl, rfl, fun lo hi => if_pos ⟨lo, hi⟩, fun outside => if_neg (by omega)⟩

end Sys2Proof.Machine

/-! O53: a serial transfer (60_exceptions.md R226, R227). With the internal clock each bit takes as many M-cycles, and what is received
after b bits is said by `Received`; with the external clock each M-cycle is one case of `Serial.endCycle`. -/

namespace Sys2Proof.Machine

theorem internals_add (s : State) (m n : Nat) : s.internals (m + n) = (s.internals m).internals n := by
  induction n with
  | zero => rfl
  | succ n ih => rw [← Nat.add_assoc, internals_succ, internals_succ, ih]

theorem internal_noReplies {s : State} (noReplies : s.host.replies = []) : s.internal.host.replies = [] :=
  (units_deviceCycle noReplies true).replies.trans noReplies

/-- A byte with a bit shifted in at bit 0. -/
def shiftIn (sb : Byte) (b : Bool) : Byte := sb <<< 1 ||| (if b then 1 else 0)

/-- A bit shifted in moves every bit up by one. -/
theorem bit_shiftIn : ∀ (sb : Byte) (b : Bool), bit (shiftIn sb b) 0 = b ∧ ∀ i, i < 7 → bit (shiftIn sb b) (i + 1) = bit sb i := by
  decide +kernel

/-- In an M-cycle that shifts a bit the eighth one ends the transfer (R226). -/
theorem endCycle_bitDone {p : Serial} {q : Peer} (done : p.bitDone q = true) :
    p.endCycle q =
      { p with
        sb := shiftIn p.sb q.bit
        ticks := 0
        bits := if 7 ≤ p.bits then 0 else p.bits + 1
        busy := !decide (7 ≤ p.bits) } := by
  have sb : ∀ (sb : Byte) (b : Bool), sb.extractLsb' 0 7 ++ BitVec.ofBool b = shiftIn sb b := by decide +kernel
  have completes : p.completes q = decide (7 ≤ p.bits) := by rw [Serial.completes, done, Bool.true_and]
  rw [Serial.endCycle, if_pos done, Serial.shift, completes, ← sb p.sb q.bit]
  simp only [decide_eq_true_eq]

/-! The internal clock. -/

/-- The M-cycles of a bit with the internal clock (R226). -/
def bitCycles (fast : Bool) : Nat := if fast then 4 else 128

theorem serialBitTicks_eq (fast : Bool) : Config.serialBitTicks fast = 4 * bitCycles fast := by cases fast <;> rfl

/-- With the internal clock a bit is done in the M-cycle that completes its ticks (R226). -/
theorem bitDone_running {p : Serial} (running : p.running = true) (q : Peer) :
    p.bitDone q = decide (4 * bitCycles p.fast ≤ p.ticks + 4) := by
  have internal : p.internal = true := (Bool.and_eq_true_iff.1 running).2
  rw [Serial.bitDone, internal, if_pos rfl, running, Bool.true_and, serialBitTicks_eq]

section
variable {s : State} (noReplies : s.host.replies = []) (running : s.serial.running = true) (start : s.serial.ticks = 0)
include noReplies running start

/-- Before the last M-cycle of a bit the serial unit only counts. -/
theorem internals_counts {r : Nat} (before : r < bitCycles s.serial.fast) :
    (s.internals r).host.replies = [] ∧ (s.internals r).serial = { s.serial with ticks := 4 * r } ∧
      (s.internals r).host.peer = s.host.peer := by
  induction r with
  | zero => exact ⟨noReplies, congrArg (fun n => { s.serial with ticks := n }) start, rfl⟩
  | succ r ih =>
    obtain ⟨none, serial, peer⟩ := ih (Nat.lt_of_succ_lt before)
    have runs : (s.internals r).serial.running = true := by rw [serial]; exact running
    have internal : s.serial.internal = true := (Bool.and_eq_true_iff.1 running).2
    have going : (s.internals r).serial.bitDone (s.internals r).host.peer = false := by
      rw [bitDone_running runs, serial, decide_eq_false_iff_not]
      dsimp only
      omega
    have waiting : (s.internals r).serial.waiting = false := by simp [serial, Serial.waiting, internal]
    obtain ⟨serial', -, peer'⟩ := internal_serial none
    rw [internals_succ]
    refine ⟨internal_noReplies none, ?_, ?_⟩
    · rw [serial', Serial.endCycle, if_neg (by simp [going]), if_pos runs, serial]
      rfl
    · rw [peer', Peer.endCycle, going, waiting, peer]
      rfl

/-- The M-cycles of a bit shift it, and where it is the eighth end the transfer. -/
theorem internals_bit :
    (s.internals (bitCycles s.serial.fast)).host.replies = [] ∧
      (s.internals (bitCycles s.serial.fast)).serial =
        { s.serial with
          sb := shiftIn s.serial.sb s.host.peer.bit
          ticks := 0
          bits := if 7 ≤ s.serial.bits then 0 else s.serial.bits + 1
          busy := !decide (7 ≤ s.serial.bits) } ∧
      (s.internals (bitCycles s.serial.fast)).host.peer = ⟨s.host.peer.bits.tail, s.host.peer.clocks⟩ ∧
      (7 ≤ s.serial.bits → (s.internals (bitCycles s.serial.fast)).irq.serial = true) := by
  obtain ⟨r, last⟩ : ∃ r, bitCycles s.serial.fast = r + 1 := ⟨bitCycles s.serial.fast - 1, by cases s.serial.fast <;> rfl⟩
  obtain ⟨none, serial, peer⟩ := internals_counts noReplies running start (r := r) (by omega)
  have runs : (s.internals r).serial.running = true := by rw [serial]; exact running
  have internal : s.serial.internal = true := (Bool.and_eq_true_iff.1 running).2
  have done : (s.internals r).serial.bitDone (s.internals r).host.peer = true := by
    rw [bitDone_running runs, serial, decide_eq_true_eq]
    dsimp only
    omega
  have waiting : (s.internals r).serial.waiting = false := by simp [serial, Serial.waiting, internal]
  obtain ⟨serial', irq', peer'⟩ := internal_serial none
  rw [last, internals_succ]
  refine ⟨internal_noReplies none, ?_, ?_, fun eighth => ?_⟩
  · rw [serial', endCycle_bitDone done, serial, peer]
  · rw [peer', Peer.endCycle, done, waiting, peer]
    rfl
  · rw [irq', Serial.completes, done, serial]
    simp [eighth]

end

/-- `t` is `s`, in which a transfer with the internal clock starts, after `b` of its bits. -/
structure Received (s : State) (b : Nat) (t : State) : Prop where
  noReplies : t.host.replies = []
  going : b < 8 → t.serial = { s.serial with sb := t.serial.sb, bits := b }
  ended : b = 8 → t.serial.busy = false ∧ t.irq.serial = true
  received : ∀ k, k < b → bit t.serial.sb (b - 1 - k) = s.host.peer.bits.getD k true
  peer : t.host.peer = ⟨s.host.peer.bits.drop b, s.host.peer.clocks⟩

/-- The bit the peer shifts in next, by its place in the list. -/
theorem peerBit_drop (bits : List Bool) (b : Nat) (clocks : List Bool) : Peer.bit ⟨bits.drop b, clocks⟩ = bits.getD b true := by
  show (bits.drop b).headD true = _
  rw [List.headD_eq_head?_getD, List.head?_drop, List.getD_eq_getElem?_getD]

section
variable {s : State} (running : s.serial.running = true) (start : s.serial.ticks = 0)
include running start

/-- The M-cycles of one more bit. -/
theorem received_bit {t : State} {b : Nat} (more : b < 8) (h : Received s b t) :
    Received s (b + 1) (t.internals (bitCycles s.serial.fast)) := by
  have before := h.going more
  have fast : t.serial.fast = s.serial.fast := by rw [before]
  have bits : t.serial.bits = b := by rw [before]
  obtain ⟨none, serial, peer, irq⟩ :=
    internals_bit h.noReplies (by rw [before]; exact running) (by rw [before]; exact start)
  rw [fast, bits] at serial
  rw [fast] at none peer
  rw [fast, bits] at irq
  have sb : (t.internals (bitCycles s.serial.fast)).serial.sb = shiftIn t.serial.sb (s.host.peer.bits.getD b true) := by
    rw [serial, h.peer, peerBit_drop]
  obtain ⟨first, others⟩ := bit_shiftIn t.serial.sb (s.host.peer.bits.getD b true)
  refine ⟨none, fun going => ?_, fun ended => ⟨?_, irq (by omega)⟩, fun k below => ?_, ?_⟩
  · have notLast : ¬7 ≤ b := by omega
    rw [serial, before]
    simp [notLast, start, (Bool.and_eq_true_iff.1 running).1]
  · rw [serial]
    simp only [Bool.not_eq_false', decide_eq_true_eq]
    omega
  · rw [sb]
    obtain last | earlier := Nat.lt_succ_iff_lt_or_eq.1 below |>.symm
    · rw [last, Nat.add_sub_cancel, Nat.sub_self]
      exact first
    · rw [show b + 1 - 1 - k = (b - 1 - k) + 1 by omega, others _ (by omega)]
      exact h.received k earlier
  · rw [peer, h.peer, List.tail_drop]

variable (noReplies : s.host.replies = []) (zero : s.serial.bits = 0)
include noReplies zero

/-- From the start of a transfer, by induction on the bits. -/
theorem received_internals {b : Nat} (most : b ≤ 8) :
    Received s b (s.internals (b * bitCycles s.serial.fast)) := by
  induction b with
  | zero =>
    rw [Nat.zero_mul]
    exact ⟨noReplies, fun _ => congrArg (fun n => { s.serial with bits := n }) zero, fun ended => absurd ended (by decide),
      fun k none => absurd none (Nat.not_lt_zero k), rfl⟩
  | succ b ih =>
    rw [Nat.succ_mul, internals_add]
    exact received_bit running start most (ih (Nat.le_of_succ_le most))

/-- The transfer is busy at every M-cycle before its last. -/
theorem busy_before {m : Nat} (before : m < 8 * bitCycles s.serial.fast) :
    (s.internals m).serial.busy = true := by
  have pos : 0 < bitCycles s.serial.fast := by cases s.serial.fast <;> decide
  have bit : m / bitCycles s.serial.fast < 8 := Nat.div_lt_of_lt_mul (by rw [Nat.mul_comm]; exact before)
  have received := received_internals running start noReplies zero bit.le
  have going := received.going bit
  have fast : (s.internals (m / bitCycles s.serial.fast * bitCycles s.serial.fast)).serial.fast = s.serial.fast := by rw [going]
  obtain ⟨-, serial, -⟩ := internals_counts received.noReplies (by rw [going]; exact running) (by rw [going]; exact start)
    (r := m % bitCycles s.serial.fast) (by rw [fast]; exact Nat.mod_lt m pos)
  rw [← internals_add, Nat.div_add_mod'] at serial
  rw [serial, going]
  exact (Bool.and_eq_true_iff.1 running).1

end

/-! The external clock. -/

section
variable {s : State} (noReplies : s.host.replies = []) (busy : s.serial.busy = true) (external : s.serial.internal = false)
include noReplies busy external

/-- An M-cycle in which the peer clocks a bit shifts it. -/
theorem internal_clocked (clock : s.host.peer.clock = true) :
    s.internal.serial = s.serial.endCycle s.host.peer ∧ s.serial.bitDone s.host.peer = true ∧
    s.internal.irq.serial = (s.irq.serial || decide (7 ≤ s.serial.bits)) ∧
    s.internal.host.peer = ⟨s.host.peer.bits.tail, s.host.peer.clocks.tail⟩ := by
  have done : s.serial.bitDone s.host.peer = true := by simp [Serial.bitDone, Serial.waiting, busy, external, clock]
  obtain ⟨serial, irq, peer⟩ := internal_serial noReplies
  refine ⟨serial, done, ?_, ?_⟩
  · rw [irq, Serial.completes, done, Bool.true_and]
  · rw [peer, Peer.endCycle, done]
    simp [Serial.waiting, busy, external]

/-- An M-cycle in which it clocks none changes nothing of the transfer. -/
theorem internal_notClocked (noClock : s.host.peer.clock = false) :
    s.internal.serial = s.serial ∧ s.internal.irq.serial = s.irq.serial ∧
    s.internal.host.peer = ⟨s.host.peer.bits, s.host.peer.clocks.tail⟩ := by
  have going : s.serial.bitDone s.host.peer = false := by simp [Serial.bitDone, external, noClock]
  have notRunning : s.serial.running = false := by simp [Serial.running, external]
  obtain ⟨serial, irq, peer⟩ := internal_serial noReplies
  refine ⟨?_, ?_, ?_⟩
  · rw [serial, Serial.endCycle, going, notRunning]; rfl
  · rw [irq, Serial.completes, going, Bool.false_and, Bool.or_false]
  · rw [peer, Peer.endCycle, going]
    simp [Serial.waiting, busy, external]

/-- With no clocks from the peer the transfer stays as it is. -/
theorem internals_noClocks (noClocks : s.host.peer.clocks = []) (m : Nat) : (s.internals m).serial = s.serial := by
  induction m generalizing s with
  | zero => rfl
  | succ m ih =>
    obtain ⟨serial, -, peer⟩ := internal_notClocked noReplies busy external (by rw [Peer.clock, noClocks]; rfl)
    have rest := ih (s := s.internal) (internal_noReplies noReplies) (by rw [serial]; exact busy) (by rw [serial]; exact external)
      (by rw [peer, noClocks]; rfl)
    exact rest.trans serial

end

/-- Settles O53: eight bits of `Received`, and the two cases of an M-cycle with the external clock. -/
theorem serialTransfer : Obligations.SerialTransfer := by
  intro s quiet busy peer
  have noReplies := quiet.1
  refine ⟨?_, fun external => ⟨?_, internal_notClocked noReplies busy external, internals_noClocks noReplies busy external⟩⟩
  · intro internal start zero n t
    have running : s.serial.running = true := by rw [Serial.running, busy, internal]; rfl
    have cycles : n = 8 * bitCycles s.serial.fast := by
      unfold bitCycles
      cases fast : s.serial.fast <;> simp [n, fast]
    have done := received_internals running start noReplies zero le_rfl
    rw [← cycles] at done
    obtain ⟨idle, irq⟩ := done.ended rfl
    refine ⟨done.received, fun none => ?_, done.peer, idle, irq,
      fun m before => busy_before running start noReplies zero (cycles ▸ before)⟩
    refine BitVec.eq_of_getLsbD_eq fun i below => ?_
    have bit := done.received (7 - i) (by omega)
    rw [show 8 - 1 - (7 - i) = i by omega, none] at bit
    have ones : ∀ i < 8, (0xFF : Byte).getLsbD i = true := by decide
    exact bit.trans (ones i below).symm
  · intro clock t
    obtain ⟨serial, done, irq, peer'⟩ := internal_clocked noReplies busy external clock
    have shifted := serial.trans (endCycle_bitDone done)
    refine ⟨by rw [shifted]; rfl, peer', fun before => ?_, fun eighth => ?_⟩
    · have notLast : ¬7 ≤ s.serial.bits := by omega
      rw [irq, shifted]
      simp [notLast]
    · rw [irq, shifted]
      simp [eighth]

end Sys2Proof.Machine

/-! O60: the palettes and the layer mask a frame is drawn with (60_exceptions.md R231, R233, R234). A frame drawn without a host call has
one look, from its first base tick to the start of line 144, which completes it. -/

namespace Sys2Proof.Machine

/-! A pixel of a completed frame. -/

theorem getD_mod_length_mem {α : Type} {l : List α} (nonempty : l ≠ []) (i : Nat) (d : α) : l.getD (i % l.length) d ∈ l := by
  have inside : i % l.length < l.length := Nat.mod_lt _ (List.length_pos_iff.2 nonempty)
  rw [List.getD_eq_getElem _ _ inside]
  exact List.getElem_mem _

/-- A pixel of a drawn frame goes through one of the looks in force in its line. -/
theorem pixel_drawn {x y : Nat} {picture : Picture} (inForce : looksIn y Config.vblankTick picture ≠ []) (n : Nat) (m : Model)
    (final : Look) :
    ∃ look ∈ looksIn y Config.vblankTick picture,
      (Frame.drawn n m final picture).pixel x y = look.palettes.pixel m n x y (topLayer look.layerMask n x y) :=
  ⟨_, getD_mod_length_mem inForce _ final, rfl⟩

theorem looksIn_one_getD (y stop i : Nat) (q : Look) : (looksIn y stop [(0, q)]).getD i q = q := by
  unfold looksIn
  split
  · cases i <;> rfl
  · rfl

/-- A pixel of a frame with one look goes through it. -/
theorem pixel_oneLook (n x y : Nat) (m : Model) (q : Look) :
    (Frame.drawn n m q [(0, q)]).pixel x y = q.palettes.pixel m n x y (topLayer q.layerMask n x y) := by
  unfold Frame.pixel
  dsimp only
  rw [looksIn_one_getD]

/-- With the sprites off no pixel of the DMG goes through a sprite palette. -/
theorem dmgPaletteOf_topLayer {mask : BitVec 3} (spritesOff : mask.getLsbD 1 = false) (n x y : Nat) :
    dmgPaletteOf n x y (topLayer mask n x y) = 0 := by
  cases top : topLayer mask n x y with
  | none => rfl
  | some l =>
    cases l with
    | background | window => rfl
    | obj =>
      have enabled : mask.getLsbD 1 = true := topLayer_enabled top
      rw [spritesOff] at enabled
      contradiction

/-! A frame drawn by a quiet machine with the LCD on. -/

/-- A quiet machine with the LCD on stands at frame position `k`, and the frame that started at position 0 was drawn so far with the look
`q` in the model `m`; after the start of line 144 it is the last completed frame. -/
structure Drawing (q : Look) (m : Model) (k : Nat) (s : State) : Prop where
  quiet : s.Quiet
  lcdOn : s.lcdOn = true
  position : s.ppu.lineTick = k
  model : s.model = m
  look : s.look = q
  picture : 0 < k → s.host.picture = [(0, q)]
  completed : Config.vblankTick < k → ∃ n, s.host.lastFrame = .drawn n m q [(0, q)]

variable {q : Look} {m : Model} {k : Nat} {s t : State}

theorem SamePicture.lcdOn (same : SamePicture s t) : t.lcdOn = s.lcdOn := by
  unfold State.lcdOn; rw [same.ppu]

theorem Drawing.samePicture (drawing : Drawing q m k s) (same : SamePicture s t) (quiet : t.Quiet) : Drawing q m k t where
  quiet := quiet
  lcdOn := same.lcdOn.trans drawing.lcdOn
  position := (congrArg Ppu.lineTick same.ppu).trans drawing.position
  model := same.model.trans drawing.model
  look := same.look.trans drawing.look
  picture started := same.picture.trans (drawing.picture started)
  completed ended := by rw [same.lastFrame]; exact drawing.completed ended

/-- The line phase completes a frame at most: the rest of what is drawn with is kept. -/
theorem linePhase_keeps (noReplies : s.host.replies = []) :
    s.linePhase.ppu = s.ppu ∧ s.linePhase.model = s.model ∧ s.linePhase.look = s.look ∧
    s.linePhase.host.picture = s.host.picture := by
  have start (l : Nat) : (s.startLine l).ppu = s.ppu ∧ (s.startLine l).model = s.model ∧ (s.startLine l).look = s.look ∧
      (s.startLine l).host.picture = s.host.picture := by
    have hook := samePicture_fire noReplies (s.host.hooks.scanline == some l) .scanline
    unfold State.startLine; dsimp only; split
    · exact ⟨hook.ppu, hook.model, hook.look, hook.picture⟩
    · exact ⟨hook.ppu, hook.model, hook.look, hook.picture⟩
  unfold State.linePhase; split
  · split
    · exact start _
    · exact ⟨rfl, rfl, rfl, rfl⟩
  · split
    · exact ⟨rfl, rfl, rfl, rfl⟩
    · exact ⟨rfl, rfl, rfl, rfl⟩

/-- At frame position 65,664 with the LCD on the line phase is the start of line 144. -/
theorem linePhase_vblank (lcdOn : s.lcdOn = true) (position : s.ppu.lineTick = Config.vblankTick) : s.linePhase = s.startLine 144 := by
  unfold State.linePhase
  rw [if_pos lcdOn, position]
  rfl

/-- A base tick of a frame finds its look in force and lists no other. -/
theorem Drawing.drawTick (drawing : Drawing q m k s) : s.drawTick = [(0, q)] := by
  unfold State.drawTick
  rw [drawing.look, drawing.position]
  split
  · split
    · rfl
    · rename_i started
      rw [drawing.picture (Nat.pos_of_ne_zero started)]
      exact if_pos rfl
  · rename_i blank
    have late : ¬ k < Config.vblankTick := by simpa [drawing.lcdOn] using blank
    exact drawing.picture (Nat.lt_of_lt_of_le (by decide) (Nat.le_of_not_lt late))

/-- The line phase at or after the start of line 144 leaves the frame completed. -/
theorem Drawing.completed_linePhase (drawing : Drawing q m k s) (late : Config.vblankTick ≤ k) :
    ∃ n, s.linePhase.host.lastFrame = .drawn n m q [(0, q)] := by
  rcases Nat.eq_or_lt_of_le late with now | before
  · rw [linePhase_vblank drawing.lcdOn (drawing.position.trans now.symm), startLine_lastFrame drawing.quiet.1,
      drawing.model, drawing.look, drawing.picture (now ▸ by decide)]
    exact ⟨_, rfl⟩
  · rw [(samePicture_linePhase drawing.quiet.1 (drawing.position ▸ (Nat.ne_of_gt before))).lastFrame]
    exact drawing.completed before

theorem Drawing.baseTick (drawing : Drawing q m k s) (within : k + 1 < Config.frameTicks) : Drawing q m (k + 1) s.baseTick := by
  obtain ⟨linePpu, lineModel, lineLook, linePicture⟩ := linePhase_keeps drawing.quiet.1
  obtain ⟨ppu, model, look, picture, lastFrame⟩ := baseTick_picture drawing.quiet
  rw [linePpu] at ppu
  have drawn : s.linePhase.drawTick = [(0, q)] := by
    rw [← drawing.drawTick]
    unfold State.drawTick State.lcdOn
    rw [linePpu, lineLook, linePicture]
  exact {
    quiet := (sameFrame_baseTick drawing.quiet).quiet drawing.quiet
    lcdOn := by unfold State.lcdOn; rw [ppu]; exact drawing.lcdOn
    position := by
      rw [ppu]
      show (s.ppu.lineTick + 1) % Config.frameTicks = k + 1
      rw [drawing.position, Nat.mod_eq_of_lt within]
    model := model.trans (lineModel.trans drawing.model)
    look := look.trans (lineLook.trans drawing.look)
    picture := fun _ => picture.trans drawn
    completed := fun late => by rw [lastFrame]; exact drawing.completed_linePhase (Nat.le_of_lt_succ late) }

/-- The base ticks of an M-cycle (R257). -/
def State.cycleTicks (s : State) : Nat := if s.doubleSpeed then 2 else 4

theorem Drawing.basePhase (drawing : Drawing q m k s) (within : k + s.cycleTicks < Config.frameTicks) :
    Drawing q m (k + s.cycleTicks) s.basePhase := by
  unfold State.basePhase
  unfold State.cycleTicks at within ⊢
  split at within
  · rw [if_pos ‹_›, if_pos ‹_›]
    exact (drawing.baseTick (by omega)).baseTick within
  · rw [if_neg ‹_›, if_neg ‹_›]
    exact (((drawing.baseTick (by omega)).baseTick (by omega)).baseTick (by omega)).baseTick within

theorem Drawing.internal (drawing : Drawing q m k s) (within : k + s.cycleTicks < Config.frameTicks) :
    Drawing q m (k + s.cycleTicks) s.internal := by
  obtain ⟨t, quiet, before, speed, after⟩ := deviceCycle_picture drawing.quiet true
  have ticks : t.cycleTicks = s.cycleTicks := by unfold State.cycleTicks; rw [speed]
  rw [← ticks] at within ⊢
  exact ((drawing.samePicture before quiet).basePhase within).samePicture after
    ((sameFrame_internal drawing.quiet).quiet drawing.quiet)

theorem cycleTicks_internal (quiet : s.Quiet) : s.internal.cycleTicks = s.cycleTicks := by
  have speed : s.internal.doubleSpeed = s.doubleSpeed := congrArg Control.doubleSpeed (sameFrame_internal quiet).control
  unfold State.cycleTicks
  rw [speed]

theorem Drawing.internals {n : Nat} (drawing : Drawing q m k s) (within : k + n * s.cycleTicks < Config.frameTicks) :
    Drawing q m (k + n * s.cycleTicks) (s.internals n) := by
  induction n generalizing k s with
  | zero => rw [Nat.zero_mul, Nat.add_zero]; exact drawing
  | succ n ih =>
    have ticks := cycleTicks_internal drawing.quiet
    have split : k + (n + 1) * s.cycleTicks = k + s.cycleTicks + n * s.internal.cycleTicks := by
      rw [ticks, Nat.succ_mul, Nat.add_assoc, Nat.add_comm s.cycleTicks]
    rw [split] at within ⊢
    exact ih (drawing.internal (Nat.lt_of_le_of_lt (Nat.le_add_right _ _) within)) within

theorem drawing_start (quiet : s.Quiet) (lcdOn : s.lcdOn = true) (position : s.ppu.lineTick = 0) : Drawing s.look s.model 0 s where
  quiet := quiet
  lcdOn := lcdOn
  position := position
  model := rfl
  look := rfl
  picture started := absurd started (by decide)
  completed ended := absurd ended (by decide)

/-- A frame drawn from position 0 to its end without a host call has the look in force at its start and no other. -/
theorem lastFrame_oneLook (quiet : s.Quiet) (lcdOn : s.lcdOn = true) (position : s.ppu.lineTick = 0) :
    ∃ n, (s.internals (if s.doubleSpeed then 32833 else 16417)).host.lastFrame = .drawn n s.model s.look [(0, s.look)] := by
  have cycles : 65664 < 0 + (if s.doubleSpeed then 32833 else 16417) * s.cycleTicks ∧
      0 + (if s.doubleSpeed then 32833 else 16417) * s.cycleTicks < 70224 := by
    unfold State.cycleTicks
    split <;> omega
  exact ((drawing_start quiet lcdOn position).internals cycles.2).completed cycles.1

/-- Settles O60: a completed frame's pixels go through looks in force in their lines, and a frame drawn without a host call has one
look. -/
theorem layerMask : Obligations.LayerMask := by
  refine ⟨rfl, ?setLayers, ?inForce, ?oneLook⟩
  case setLayers =>
    intro s mask live
    exact ⟨s.setLayers mask, hostCall_next live rfl live, BitVec.toNat_ofNat .., rfl, fun _ => rfl⟩
  case inForce =>
    intro s x y noReplies inForce
    rw [startLine_lastFrame noReplies]
    obtain ⟨look, listed, pixel⟩ := pixel_drawn (x := x) inForce (s.startLine 144).draws s.model s.look
    exact ⟨look, listed, _, pixel, fun _ top => topLayer_enabled top⟩
  case oneLook =>
    intro s quiet lcdOn position
    obtain ⟨n, frame⟩ := lastFrame_oneLook quiet lcdOn position
    refine ⟨n, fun x y => ?_⟩
    intro pixel
    have drawn : pixel = s.host.palettes.pixel s.model n x y (topLayer s.host.layerMask n x y) :=
      (congrArg (Frame.pixel · x y) frame).trans (pixel_oneLook n x y s.model s.look)
    refine ⟨⟨_, drawn, fun _ top => topLayer_enabled top⟩, fun dmg spritesOff => ?_⟩
    rw [drawn, dmg]
    unfold Palettes.pixel
    dsimp only
    rw [dmgPaletteOf_topLayer spritesOff]
    exact ⟨_, Fin.isLt _, rfl⟩

end Sys2Proof.Machine
